-- ==== Sys2Proof/Word.lean ====
section
/-!
DEFINITION. The two word types of the host link (00, Conventions; 10, Table 10.7). Everything else in the
model is a number with a unit or a named value, as the manual has it.
-/

namespace Sys2Proof

/-- One byte on the link. -/
abbrev Byte := BitVec 8

/-- A two-byte field of a link frame, high byte first on the line (R186). -/
abbrev Word := BitVec 16

end Sys2Proof
end

