-- ==== Sys2Proof/Config.lean ====
section
/-!
DEFINITION. What the part fixes, as the manual gives it (00, Tables of terms and capacities), and the one
value it leaves open.
-/

namespace Sys2Proof.Config

/-- FREE VALUE (log 9): whether the door and limit unit takes a cavity sample event before the run engine
does. The manual gives the three consumers of the event no order (R13), and the order shows only when one
sample both ends a REACHED step (R148) and stands above the cavity limit (R169). It is applied to the run's
`total_s` and the filtered value, so that one occasion binds no other. -/
opaque limitBeforeReached : Nat → Int → Bool

/-- BOIL_T, the boiling threshold (00, Terms), in 0.1 °C. -/
def boilT : Int := 980

/-- The lower edge of the hold band (R89). -/
def holdLow : Int := 950

/-- The dry-fire limit (R99). -/
def dryFire : Int := 1300

/-- The boiler value below which CLEAR_FAULT is taken (R100). -/
def boilerCool : Int := 1000

/-- The cavity limit (R169). -/
def cavityLimit : Int := 3000

/-- The cool-down threshold of the convection fan (R76). -/
def coolDown : Int := 600

/-- A fill or refill times out at this count (R87, R94). -/
def fillSeconds : Nat := 90

/-- The heat count that faults the boiler (R88). -/
def heatSeconds : Nat := 600

/-- The drain count that completes a drain (R97). -/
def drainSeconds : Nat := 40

/-- The keep-warm time (R160). -/
def holdSeconds : Nat := 3600

/-- DESCALE_SOAK_MIN (R112). -/
def descaleSoakMin : Nat := 1500

/-- The soak that qualifies a rinse (R112). -/
def rinseSoakMin : Nat := 300

/-- The BOILER demand cap of the DERATE stage (R91). -/
def derateCap : Nat := 12

/-- The end of every saturating 16-bit count (R96, R107, R147). -/
def countMax : Nat := 65535

/-- A zero-cross this long after the last one is qualified (R10), in microseconds. -/
def qualifyUs : Nat := 6000

/-- The longest half-cycle, and the supply timer (R10, R45), in microseconds. -/
def halfCycleUs : Nat := 40000

/-- Steps a program may hold (R122). -/
def maxSteps : Nat := 20

/-- Records in the step pool (R128). -/
def poolSize : Nat := 96

end Sys2Proof.Config
end

