-- ==== Sys2Proof/Syntax.lean ====
section
/-!
DEFINITION. The commands of the CX24: one constructor of `Instr` for each row of spec/opcode_table.json, and
the request bodies of the host link (10, Table 10.4) as the host sends them, so that a value out of its range
can be sent and be refused as the owning rule says.
-/

namespace Sys2Proof

/-- The five arbitrated loads (00, Names). -/
inductive LoadId where
  | top | bottom | ring | grill | boiler
  deriving DecidableEq, Repr

/-- The analog channels that ANALOG_SAMPLE samples; the core temperature is sampled by PROBE_SAMPLE (R1, R7)
and the mains channels by MAINS_SAMPLE (R11). -/
inductive AnalogInput where
  | cavity | boiler | moisture
  deriving DecidableEq, Repr

/-- The sampled mains channels (R11). -/
inductive MainsInput where
  | voltage | legA | legB
  deriving DecidableEq, Repr

/-- A level of the probe presence contact (01, 1.5). -/
inductive Presence where
  | present | absent
  deriving DecidableEq, Repr

/-- A level of a boiler electrode (01, 1.5). -/
inductive Level where
  | wet | dry
  deriving DecidableEq, Repr

/-- A level of the door switch (R12). -/
inductive DoorLevel where
  | opened | closed
  deriving DecidableEq, Repr

/-- A zero-cross at the pin: the time since the last qualified one in microseconds, and the RMS values over
that time (R10): voltage in 0.1 V, leg currents in mA. -/
structure Crossing where
  intervalUs : Nat
  volts : Nat
  ampsA : Nat
  ampsB : Nat
  deriving DecidableEq, Repr

/-- An expression as it crosses the link (R186, Table 10.8). -/
structure RawExpr where
  disp : Word
  base : Byte
  index : Byte
  scale : Byte
  deriving DecidableEq, Repr

/-- A step record as it crosses the link, 27 bytes (R186, Table 10.8). -/
structure RawStep where
  kind : Byte
  mode : Byte
  endCond : Byte
  onEnd : Byte
  vent : Byte
  prompt : Byte
  presence : Byte
  temp : RawExpr
  humidity : RawExpr
  duration : RawExpr
  core : RawExpr
  deriving DecidableEq, Repr

/-- A variable entry of DEFINE_PROGRAM as it crosses the link (R181). -/
structure RawVar where
  presence : Byte
  value : Word
  min : Word
  max : Word
  deriving DecidableEq, Repr

/-- Four variable entries, one half of a program header (R181). -/
structure RawVars where
  v0 : RawVar
  v1 : RawVar
  v2 : RawVar
  v3 : RawVar
  deriving DecidableEq, Repr

/-- The body of SET_SUPPLY (Table 10.4). -/
structure RawSupply where
  connection : Byte
  budgetA : Word
  budgetB : Word
  reserveA : Word
  reserveB : Word
  slotHc : Byte
  deriving DecidableEq, Repr

/-- The body of SET_MODE_ENTRY (Table 10.4). -/
structure RawEntry where
  entry : Byte
  top : Byte
  bottom : Byte
  ring : Byte
  grill : Byte
  boiler : Byte
  fan : Byte
  tempLoop : Byte
  humLoop : Byte
  min : Word
  max : Word
  deriving DecidableEq, Repr

/-- The body of SET_WATER (Table 10.4). -/
structure RawWater where
  hardness : Word
  fillMl : Word
  advise : Word
  derate : Word
  lock : Word
  deriving DecidableEq, Repr

/-- A request as the link interface decodes it: one constructor for each code of Table 10.4, and one for each
part of DEFINE_PROGRAM. -/
inductive Request where
  | readStatus
  | readMeasurements
  | readLoad (load : Byte)
  | readFrame
  | readProgram (slot : Byte)
  | readStep (slot position : Byte)
  | readScale
  | readNotices
  | clearNotices (kinds : Word)
  | setLoad (load : Byte) (ratedW : Word) (cls leg : Byte)
  | setSupply (body : RawSupply)
  | setPlacement (slots : List Byte)
  | setRotation (cls policy : Byte) (members : Option (List Byte))
  | setModeEntry (body : RawEntry)
  | setLoop (kp ki ks period band : Byte)
  | setWater (body : RawWater)
  | setScale (scaleMg : Word) (rinseDue : Byte) (hardness : Word)
  | defineProgram0 (slot part : Byte) (tag keepWarm : Word) (vars : RawVars)
  | defineProgram1 (slot part : Byte) (vars : RawVars)
  | retireProgram (slot : Byte)
  | appendStep (slot : Byte) (step : RawStep)
  | insertStep (slot position : Byte) (step : RawStep)
  | replaceStep (slot position : Byte) (step : RawStep)
  | deleteStep (slot position : Byte)
  | setVariable (slot var : Byte) (value : Word)
  | start (slot : Byte)
  | pause
  | resume
  | confirm
  | skip
  | adjust (quantity : Byte) (value : Word)
  | endHold
  | abort
  | rotateLowest (load : Byte)
  | verify (load : Byte)
  | clearFault (target load : Byte)
  | force (load action : Byte)
  | pattern (pat : Byte)
  | init
  deriving DecidableEq, Repr

/-- The commands: one constructor for each row of spec/opcode_table.json. -/
inductive Instr where
  | resetRelease (strapHigh : Bool) (door : DoorLevel)
  | analogSample (input : AnalogInput) (raw : Int)
  | probeSample (contact : Presence) (raw : Int)
  | electrodeSample (low high : Level)
  | mainsSample (input : MainsInput)
  | zeroCross (z : Crossing)
  | slotEnd (z : Crossing)
  | frameBoundary (z : Crossing)
  | soloBaselineEnd (z : Crossing)
  | supplyLoss
  | doorSwitchChange (level : DoorLevel)
  | doorDebounceExpiry
  | loopUpdate
  | sgcClockTick
  | fillTimeout
  | refillTimeout
  | heatTimeout
  | drainComplete
  | soakDurationReached
  | stepTick
  | stepDurationExpiry
  | holdTimeout
  | linkByte (b : Byte)
  | gapTimeout
  | responseComplete
  | linkSilence
  | badCheckFrame (code : Byte) (body : List Byte) (check : Byte)
  | unknownRequest (code : Byte) (body : List Byte)
  | readStatus
  | readMeasurements
  | readLoad (load : Byte)
  | readFrame
  | readProgram (slot : Byte)
  | readStep (slot position : Byte)
  | readScale
  | readNotices
  | clearNotices (kinds : Word)
  | setLoad (load : Byte) (ratedW : Word) (cls leg : Byte)
  | setSupply (body : RawSupply)
  | setPlacement (slots : List Byte)
  | setRotation (cls policy : Byte) (members : Option (List Byte))
  | setModeEntry (body : RawEntry)
  | setLoop (kp ki ks period band : Byte)
  | setWater (body : RawWater)
  | setScale (scaleMg : Word) (rinseDue : Byte) (hardness : Word)
  | defineProgramPart0 (slot part : Byte) (tag keepWarm : Word) (vars : RawVars)
  | defineProgramPart1 (slot part : Byte) (vars : RawVars)
  | retireProgram (slot : Byte)
  | appendStep (slot : Byte) (step : RawStep)
  | insertStep (slot position : Byte) (step : RawStep)
  | replaceStep (slot position : Byte) (step : RawStep)
  | deleteStep (slot position : Byte)
  | setVariable (slot var : Byte) (value : Word)
  | start (slot : Byte)
  | pause
  | resume
  | confirm
  | skip
  | adjustTemp (value : Word)
  | adjustHumidity (value : Word)
  | adjustDuration (value : Word)
  | endHold
  | abort
  | rotateLowest (load : Byte)
  | verify (load : Byte)
  | clearFaultOven (load : Byte)
  | clearFaultBoiler (load : Byte)
  | clearFaultLoad (load : Byte)
  | forceOn (load : Byte)
  | forceOff (load : Byte)
  | forceRelease (load : Byte)
  | patternAllOff
  | patternWalk
  | patternAlternate
  | patternNone
  | init
  deriving DecidableEq, Repr

end Sys2Proof
end

