-- ==== Sys2Proof/Decode.lean ====
section
/-!
DEFINITION. The decoder of table words. No row of spec/opcode_table.json carries bits ("fields" is empty in every
row), so no word spells a command. The frames of the host link, which do have a byte layout, are decoded in
Machine/Operands.lean, where LINK_BYTE reads them.
-/

namespace Sys2Proof

/-- The command that a table word spells: none, since the table gives no row a word (log 27). -/
def decodeTableWord (_nbits _w : Nat) : Option Instr := none

end Sys2Proof
end

