-- ==== Sys2Proof/Machine/State.lean ====
section
/-!
DEFINITION. The state of the CX24, block by block as the manual's record tables give it, the reasons a step can
stop, and the state after reset. Plain data throughout.
-/

namespace Sys2Proof.Machine

/-- One value for each arbitrated load, in index order. -/
structure PerLoad (α : Type) where
  top : α
  bottom : α
  ring : α
  grill : α
  boiler : α
  deriving DecidableEq, Repr

/-- The value of one load. -/
def PerLoad.get {α : Type} (p : PerLoad α) : LoadId → α
  | .top => p.top
  | .bottom => p.bottom
  | .ring => p.ring
  | .grill => p.grill
  | .boiler => p.boiler

/-- Write the value of one load. -/
def PerLoad.set {α : Type} (p : PerLoad α) (l : LoadId) (a : α) : PerLoad α :=
  match l with
  | .top => { p with top := a }
  | .bottom => { p with bottom := a }
  | .ring => { p with ring := a }
  | .grill => { p with grill := a }
  | .boiler => { p with boiler := a }

/-- A value computed for each load. -/
def PerLoad.of {α : Type} (f : LoadId → α) : PerLoad α :=
  { top := f .top, bottom := f .bottom, ring := f .ring, grill := f .grill, boiler := f .boiler }

/-- The loads in index order (00, Names). -/
def allLoads : List LoadId := [.top, .bottom, .ring, .grill, .boiler]

/-- The cavity heaters in index order. -/
def elements : List LoadId := [.top, .bottom, .ring, .grill]

/-! ## Measurement unit (01) -/

/-- Analog channel record (Table 1.1). -/
structure Analog where
  raw : Int
  filtered : Option Int
  fault : Bool
  badRun : Nat
  goodRun : Nat
  deriving DecidableEq, Repr

/-- A digital channel: reported state and count (1.5). -/
structure Digital (α : Type) where
  reported : α
  changeRun : Nat
  deriving DecidableEq, Repr

/-- The values of one half-cycle (R10); leg B where it was measured. -/
structure HalfCycle where
  volts : Nat
  ampsA : Nat
  ampsB : Option Nat
  deriving DecidableEq, Repr

/-- The measurement unit. `probeSeen` and `electrodesSeen` mark that the first sample after reset has been taken
(R8); `zcSeen` that a zero-cross has (R10); `legBTail` that leg B goes on being measured until the next build
(R11); the `fresh` marks that a half-cycle has completed since the channel's last sample (R11). -/
structure Msu where
  cavity : Analog
  boiler : Analog
  core : Analog
  moisture : Analog
  voltage : Analog
  ampsA : Analog
  ampsB : Analog
  probe : Digital Presence
  low : Digital Level
  high : Digital Level
  probeSeen : Bool
  electrodesSeen : Bool
  zcSeen : Bool
  halfOpen : Bool
  legBOpen : Bool
  legBTail : Bool
  latest : Option HalfCycle
  freshV : Bool
  freshA : Bool
  freshB : Bool
  deriving DecidableEq, Repr

/-! ## Load table (02) -/

/-- A supply leg. -/
inductive Leg where
  | a | b
  deriving DecidableEq, Repr

/-- The result of a load's last judgement (Table 2.5). -/
inductive Health where
  | untested | good | weak | opened | high
  deriving DecidableEq, Repr

/-- A mask reason (Table 2.3). -/
inductive Reason where
  | door | pause | health | level | dryfire | scale | overload | supply | faultMode | forceOff
  deriving DecidableEq, Repr

/-- A mask-reason set, one member flag for each reason of Table 2.3. -/
structure Mask where
  door : Bool := false
  pause : Bool := false
  health : Bool := false
  level : Bool := false
  dryfire : Bool := false
  scale : Bool := false
  overload : Bool := false
  supply : Bool := false
  faultMode : Bool := false
  forceOff : Bool := false
  deriving DecidableEq, Repr

/-- Whether a reason is present. -/
def Mask.has (m : Mask) : Reason → Bool
  | .door => m.door
  | .pause => m.pause
  | .health => m.health
  | .level => m.level
  | .dryfire => m.dryfire
  | .scale => m.scale
  | .overload => m.overload
  | .supply => m.supply
  | .faultMode => m.faultMode
  | .forceOff => m.forceOff

/-- Add or remove a reason. -/
def Mask.put (m : Mask) (r : Reason) (b : Bool) : Mask :=
  match r with
  | .door => { m with door := b }
  | .pause => { m with pause := b }
  | .health => { m with health := b }
  | .level => { m with level := b }
  | .dryfire => { m with dryfire := b }
  | .scale => { m with scale := b }
  | .overload => { m with overload := b }
  | .supply => { m with supply := b }
  | .faultMode => { m with faultMode := b }
  | .forceOff => { m with forceOff := b }

/-- The set holds no reason. -/
def Mask.isEmpty (m : Mask) : Bool := m == {}

/-- Load record (Table 2.1). -/
structure Load where
  ratedW : Nat
  cls : Nat
  leg : Leg
  demand : Nat
  mask : Mask
  health : Health
  measuredW : Option Nat
  verifyDue : Bool
  served : Nat
  shortfall : Nat
  on : Bool
  deriving DecidableEq, Repr

/-- A fan speed (Table 2.4). -/
inductive FanSpeed where
  | off | low | high
  deriving DecidableEq, Repr

/-- The auxiliary outputs (Table 2.4); `true` is ON, and OPEN for the vent. -/
structure Aux where
  fan : FanSpeed
  lamp : Bool
  feedPump : Bool
  drainPump : Bool
  vent : Bool
  coolFan : Bool
  deriving DecidableEq, Repr

/-- An open solo-slot measurement (R25): the load, the records counted, the sums of the baseline window and of the
on window, and the void mark. Its leg is the field it is held in. -/
structure Measurement where
  load : LoadId
  count : Nat
  offSum : Nat
  onSum : Nat
  voltSum : Nat
  void : Bool
  deriving DecidableEq, Repr

/-- The load table. -/
structure Ldt where
  loads : PerLoad Load
  aux : Aux
  measA : Option Measurement
  measB : Option Measurement
  deriving DecidableEq, Repr

/-! ## Power arbiter (03) -/

/-- A supply connection. -/
inductive Connection where
  | single | dual
  deriving DecidableEq, Repr

/-- Supply configuration (Table 3.1). -/
structure Supply where
  connection : Connection
  budgetA : Nat
  budgetB : Nat
  reserveA : Nat
  reserveB : Nat
  slotHc : Nat
  deriving DecidableEq, Repr

/-- A class policy (3.5). -/
inductive Policy where
  | fixed | rotating
  deriving DecidableEq, Repr

/-- One value for each priority class. -/
structure PerClass (α : Type) where
  c0 : α
  c1 : α
  c2 : α
  c3 : α
  deriving DecidableEq, Repr

/-- The value of one class; a number above 3 names class 3. -/
def PerClass.get {α : Type} (p : PerClass α) : Nat → α
  | 0 => p.c0
  | 1 => p.c1
  | 2 => p.c2
  | _ => p.c3

/-- Write the value of one class. -/
def PerClass.set {α : Type} (p : PerClass α) (c : Nat) (a : α) : PerClass α :=
  match c with
  | 0 => { p with c0 := a }
  | 1 => { p with c1 := a }
  | 2 => { p with c2 := a }
  | _ => { p with c3 := a }

/-- States of the frame (Table 3.3). -/
inductive FrameState where
  | waiting | firing | halted
  deriving DecidableEq, Repr

/-- One slot of the schedule: the loads placed in it and the solo reservation of each leg (R51, R52). -/
structure Slot where
  placed : PerLoad Bool
  soloA : Option LoadId
  soloB : Option LoadId
  deriving DecidableEq, Repr

/-- The values in force of a frame (R40). -/
structure InForce where
  connection : Connection
  capA : Nat
  capB : Nat
  budgetA : Nat
  budgetB : Nat
  slotHc : Nat
  charge : PerLoad Nat
  leg : PerLoad Leg
  deriving DecidableEq, Repr

/-- The frame record (3.2). -/
structure Frame where
  state : FrameState
  slot : Nat
  half : Nat
  grid : List Slot
  withdrawn : PerLoad Bool
  inForce : InForce
  deriving DecidableEq, Repr

/-- The power arbiter. -/
structure Par where
  supply : Supply
  placement : List Nat
  lists : PerClass (List LoadId)
  policies : PerClass Policy
  frame : Frame
  deriving DecidableEq, Repr

/-! ## Climate controller (04) -/

/-- Heating mode entry (Table 4.1). -/
structure ModeEntry where
  top : Nat
  bottom : Nat
  ring : Nat
  grill : Nat
  boiler : Nat
  fan : FanSpeed
  tempLoop : Bool
  humLoop : Bool
  range : Option (Int × Int)
  deriving DecidableEq, Repr

/-- An entry needs steam when its BOILER weight is above 0 or its humidity loop is on (R62). -/
def ModeEntry.needsSteam (e : ModeEntry) : Bool := decide (0 < e.boiler) || e.humLoop

/-- The kind of the climate (Table 4.3). -/
inductive ClimateKind where
  | none | step | hold
  deriving DecidableEq, Repr

/-- A vent setting (Table 4.3). -/
inductive VentSetting where
  | auto | opened
  deriving DecidableEq, Repr

/-- Climate record (Table 4.3). -/
structure Climate where
  kind : ClimateKind
  mode : Nat
  entry : ModeEntry
  setpoint : Option Int
  humSet : Option Int
  vent : VentSetting
  tempUse : Bool
  humUse : Bool
  deriving DecidableEq, Repr

/-- Loop parameters (Table 4.9). -/
structure LoopParams where
  kp : Nat
  ki : Nat
  ks : Nat
  period : Nat
  band : Nat
  deriving DecidableEq, Repr

/-- One value for each element. -/
structure PerElement where
  top : Nat
  bottom : Nat
  ring : Nat
  grill : Nat
  deriving DecidableEq, Repr

/-- The climate controller. `loopTimer` holds the period the running loop timer was started with. -/
structure Clc where
  table : Vector ModeEntry 8
  loop : LoopParams
  climate : Climate
  loopTimer : Option Nat
  heat : Nat
  integral : Nat
  humid : Nat
  demands : PerElement
  deriving DecidableEq, Repr

/-! ## Steam generator (05) -/

/-- Boiler states (Table 5.1). -/
inductive BoilerState where
  | empty | filling | standing | heating | ready | steaming | refilling | soaking | draining | fault
  deriving DecidableEq, Repr

/-- What the boiler holds (Table 5.1). -/
inductive Content where
  | none | water | descaler | unknown
  deriving DecidableEq, Repr

/-- Why it holds it (Table 5.1). -/
inductive Purpose where
  | idle | cook | descale | rinse
  deriving DecidableEq, Repr

/-- What a fill brings in (R83). -/
inductive FillContent where
  | water | descaler
  deriving DecidableEq, Repr

/-- A step request (R83). -/
inductive StepRequest where
  | none
  | fill (c : FillContent)
  | soak (target : Int)
  | drain
  deriving DecidableEq, Repr

/-- The state a refill returns to (R92). -/
inductive Prior where
  | ready | steaming
  deriving DecidableEq, Repr

/-- The boiler record (Table 5.1) with the climate controller's last hand. -/
structure Sgc where
  state : BoilerState
  content : Content
  purpose : Purpose
  soakedS : Option Nat
  tankEmpty : Bool
  request : StepRequest
  served : Bool
  lookAhead : Bool
  share : Nat
  humQuanta : Nat
  needsSteam : Bool
  prior : Option Prior
  thermostat : Bool
  fillTimer : Nat
  heatCount : Nat
  drainCount : Option Nat
  demand : Nat
  deriving DecidableEq, Repr

/-! ## Scale account (06) -/

/-- Scale stages, in rising order (R105). -/
inductive Stage where
  | clear | advise | derate | lock
  deriving DecidableEq, Repr

/-- The scale account (Table 6.1). -/
structure Sca where
  hardness : Nat
  fillMl : Nat
  advise : Nat
  derate : Nat
  lock : Nat
  scaleMg : Nat
  stage : Stage
  rinseDue : Bool
  rinseSoaked : Bool
  restored : Bool
  deriving DecidableEq, Repr

/-! ## Program store (07) -/

/-- A variable (R123). -/
structure Variable where
  value : Nat
  min : Nat
  max : Nat
  deriving DecidableEq, Repr

/-- An expression (Table 7.4); `minus` is the sign of the index term. -/
structure Expr where
  disp : Int
  base : Option (Fin 8)
  index : Option (Fin 8)
  scale : Nat
  minus : Bool
  deriving DecidableEq, Repr

/-- How a CLIMATE step ends (Table 7.3). -/
inductive EndCond where
  | time | core | reached | confirm
  deriving DecidableEq, Repr

/-- What follows a CLIMATE step's end (Table 7.3). -/
inductive OnEnd where
  | continue | pause
  deriving DecidableEq, Repr

/-- The fields of a CLIMATE step (Table 7.3). -/
structure ClimateStep where
  mode : Fin 8
  temp : Option Expr
  humidity : Option Expr
  endCond : EndCond
  duration : Option Expr
  core : Option Expr
  onEnd : OnEnd
  vent : VentSetting
  prompt : Nat
  deriving DecidableEq, Repr

/-- A step record (Table 7.2). -/
inductive Step where
  | climate (c : ClimateStep)
  | confirm (prompt : Nat)
  | boilerFill (c : FillContent)
  | boilerSoak (target : Int) (seconds : Nat)
  | boilerDrain
  deriving DecidableEq, Repr

/-- A DEFINED user program (Table 7.1); its steps are record numbers of the pool. -/
structure Program where
  tag : Nat
  steps : List Nat
  vars : Vector (Option Variable) 8
  keepWarm : Option Nat
  deriving DecidableEq, Repr

/-- The program store: user slots 2 to 7 at indices 0 to 5, EMPTY where none, and the step pool, free where none. -/
structure Pst where
  programs : Vector (Option Program) 6
  pool : Vector (Option Step) 96
  deriving DecidableEq, Repr

/-! ## Run engine (08) -/

/-- Run states (Table 8.1). -/
inductive RunState where
  | idle | active | awaitConfirm | holding | ending
  deriving DecidableEq, Repr

/-- What an awaited CONFIRM will do (Table 8.1). -/
inductive Awaiting where
  | step | next
  deriving DecidableEq, Repr

/-- A pause reason (Table 8.1). -/
inductive PauseReason where
  | host | door | tank | probe | link
  deriving DecidableEq, Repr

/-- The pause-reason set. -/
structure PauseSet where
  host : Bool := false
  door : Bool := false
  tank : Bool := false
  probe : Bool := false
  link : Bool := false
  deriving DecidableEq, Repr

/-- Whether a pause reason is present. -/
def PauseSet.has (p : PauseSet) : PauseReason → Bool
  | .host => p.host
  | .door => p.door
  | .tank => p.tank
  | .probe => p.probe
  | .link => p.link

/-- Add or remove a pause reason. -/
def PauseSet.put (p : PauseSet) (r : PauseReason) (b : Bool) : PauseSet :=
  match r with
  | .host => { p with host := b }
  | .door => { p with door := b }
  | .tank => { p with tank := b }
  | .probe => { p with probe := b }
  | .link => { p with link := b }

/-- The set holds no reason. -/
def PauseSet.isEmpty (p : PauseSet) : Bool := p == {}

/-- The latched quantities (R146). -/
structure Latched where
  temp : Option Int := .none
  humidity : Option Int := .none
  duration : Option Nat := .none
  core : Option Int := .none
  deriving DecidableEq, Repr

/-- The step marks (Table 8.1). -/
structure Marks where
  clamped : Bool := false
  timedOut : Bool := false
  skipped : Bool := false
  deriving DecidableEq, Repr

/-- The cause of a step end (Table 8.1). -/
inductive EndCause where
  | condition | cap | skip | confirm
  deriving DecidableEq, Repr

/-- The outcome of a run (Table 8.1). -/
inductive RunOutcome where
  | completed | aborted | faulted
  deriving DecidableEq, Repr

/-- The last end (Table 8.1). -/
structure LastEnd where
  position : Nat
  cause : EndCause
  marks : Marks
  deriving DecidableEq, Repr

/-- The run record (Table 8.1). -/
structure Run where
  slot : Option Nat
  state : RunState
  position : Option Nat
  awaiting : Option Awaiting
  pause : PauseSet
  elapsedS : Nat
  totalS : Nat
  holdS : Nat
  latched : Latched
  marks : Marks
  degraded : Bool
  lastEnd : Option LastEnd
  endingCause : Option RunOutcome
  outcome : Option RunOutcome
  deriving DecidableEq, Repr

/-! ## Door and limit unit (09) -/

/-- The debounced door state (Table 9.1). -/
inductive DoorState where
  | unsettled | opened | closed
  deriving DecidableEq, Repr

/-- The door and limit unit (Table 9.1); `debounce` is the timer running. -/
structure Dlu where
  door : DoorState
  input : DoorLevel
  debounce : Bool
  latch : Bool
  causeLimit : Bool
  causeSensor : Bool
  deriving DecidableEq, Repr

/-- The oven mode (Table 9.4). -/
inductive OvenMode where
  | standby | running | fault | service
  deriving DecidableEq, Repr

/-! ## Link interface (10) -/

/-- Receive states (Table 10.1). -/
inductive Rx where
  | hunt | length | body | check | answering
  deriving DecidableEq, Repr

/-- A notice kind (Table 10.6). -/
inductive Notice where
  | stepEnded | awaitConfirm | programEnded | doorPause | tankEmpty | loadFault | overload | boilerFault
  | scaleAdvise | scaleDerate | scaleLock | probeFault | sensorFault | faultMode
  deriving DecidableEq, Repr

/-- The notice set, one member flag for each kind of Table 10.6. -/
structure Notices where
  stepEnded : Bool := false
  awaitConfirm : Bool := false
  programEnded : Bool := false
  doorPause : Bool := false
  tankEmpty : Bool := false
  loadFault : Bool := false
  overload : Bool := false
  boilerFault : Bool := false
  scaleAdvise : Bool := false
  scaleDerate : Bool := false
  scaleLock : Bool := false
  probeFault : Bool := false
  sensorFault : Bool := false
  faultMode : Bool := false
  deriving DecidableEq, Repr

/-- Whether a kind is in the set. -/
def Notices.has (n : Notices) : Notice → Bool
  | .stepEnded => n.stepEnded
  | .awaitConfirm => n.awaitConfirm
  | .programEnded => n.programEnded
  | .doorPause => n.doorPause
  | .tankEmpty => n.tankEmpty
  | .loadFault => n.loadFault
  | .overload => n.overload
  | .boilerFault => n.boilerFault
  | .scaleAdvise => n.scaleAdvise
  | .scaleDerate => n.scaleDerate
  | .scaleLock => n.scaleLock
  | .probeFault => n.probeFault
  | .sensorFault => n.sensorFault
  | .faultMode => n.faultMode

/-- Add a kind to the set. -/
def Notices.add (n : Notices) (k : Notice) : Notices :=
  match k with
  | .stepEnded => { n with stepEnded := true }
  | .awaitConfirm => { n with awaitConfirm := true }
  | .programEnded => { n with programEnded := true }
  | .doorPause => { n with doorPause := true }
  | .tankEmpty => { n with tankEmpty := true }
  | .loadFault => { n with loadFault := true }
  | .overload => { n with overload := true }
  | .boilerFault => { n with boilerFault := true }
  | .scaleAdvise => { n with scaleAdvise := true }
  | .scaleDerate => { n with scaleDerate := true }
  | .scaleLock => { n with scaleLock := true }
  | .probeFault => { n with probeFault := true }
  | .sensorFault => { n with sensorFault := true }
  | .faultMode => { n with faultMode := true }

/-- The result codes (Table 10.7), in the order of their encoding. -/
inductive ResultCode where
  | ok | check | unknown | length | mode | noSuch | protect | range | duplicate | inUse | state | water | full
  deriving DecidableEq, Repr

/-- A response being sent (R177): the code as received, the result and the body. -/
structure Response where
  code : Byte
  result : ResultCode
  body : List Byte
  deriving DecidableEq, Repr

/-- The pending definition (R181): part 0 of DEFINE_PROGRAM. -/
structure PendingDef where
  slot : Nat
  tag : Nat
  keepWarm : Option Nat
  vars : List (Option Variable)
  deriving DecidableEq, Repr

/-- The link interface (Table 10.1); `gap` and `silence` are timers running. -/
structure Lif where
  rx : Rx
  length : Nat
  buffer : List Byte
  gap : Bool
  pendingDef : Option PendingDef
  notices : Notices
  silence : Bool
  silent : Bool
  response : Option Response
  deriving DecidableEq, Repr

/-! ## Service functions (11) -/

/-- A load's forcing (Table 11.2). -/
inductive Forcing where
  | none | on | off
  deriving DecidableEq, Repr

/-- A step of ALTERNATE (Table 11.2). -/
inductive Group where
  | even | odd
  deriving DecidableEq, Repr

/-- The pattern with its step (Table 11.2). -/
inductive Pattern where
  | none
  | allOff
  | walk (l : LoadId)
  | alternate (g : Group)
  deriving DecidableEq, Repr

/-- The service functions, and whether start-up gave SERVICE (R188). -/
structure Svc where
  service : Bool
  forcing : PerLoad Forcing
  pattern : Pattern
  deriving DecidableEq, Repr

/-! ## The machine -/

/-- The state of the CX24, and the queue of commands that wait. -/
structure State where
  msu : Msu
  ldt : Ldt
  par : Par
  clc : Clc
  sgc : Sgc
  sca : Sca
  pst : Pst
  run : Run
  dlu : Dlu
  lif : Lif
  svc : Svc
  pending : List Instr
  deriving DecidableEq, Repr

/-- Faults: none. The manual's faults are conditions of the oven that the state holds (INVENTORY.md, Faults); no
event stops the part. -/
inductive Fault where
  deriving DecidableEq, Repr

/-- Refusals of the model itself. -/
inductive Refusal where
  /-- Raised by an arm of `exec` whose command has no meaning yet; safe, since the model stops there. No arm uses
  it. -/
  | notModelled (mnemonic : String)
  deriving DecidableEq, Repr

/-! ## Reset (R16, R36, R60, R79, R103, R120, R141, R165, R174, R187, R188) -/

/-- An unsettled analog channel (R16). -/
def Analog.unsettled : Analog :=
  { raw := 0, filtered := .none, fault := false, badRun := 0, goodRun := 0 }

/-- The measurement unit after reset (R16); the reported digital states stand until the first sample (log 7). -/
def Msu.reset : Msu where
  cavity := .unsettled
  boiler := .unsettled
  core := .unsettled
  moisture := .unsettled
  voltage := .unsettled
  ampsA := .unsettled
  ampsB := .unsettled
  probe := { reported := .absent, changeRun := 0 }
  low := { reported := .dry, changeRun := 0 }
  high := { reported := .dry, changeRun := 0 }
  probeSeen := false
  electrodesSeen := false
  zcSeen := false
  halfOpen := false
  legBOpen := false
  legBTail := false
  latest := .none
  freshV := false
  freshA := false
  freshB := false

/-- A load record after reset (R36) with the configuration of Table 2.2. -/
def Load.reset (ratedW cls : Nat) (leg : Leg) (mask : Mask) : Load where
  ratedW := ratedW
  cls := cls
  leg := leg
  demand := 0
  mask := mask
  health := .untested
  measuredW := .none
  verifyDue := true
  served := 0
  shortfall := 0
  on := false

/-- The load table after reset (R36), with LEVEL on BOILER (R103). -/
def Ldt.reset : Ldt where
  loads :=
    { top := .reset 1200 2 .a {}
      bottom := .reset 1100 2 .b {}
      ring := .reset 2000 2 .a {}
      grill := .reset 2000 2 .b {}
      boiler := .reset 1800 1 .b { level := true } }
  aux := { fan := .off, lamp := false, feedPump := false, drainPump := false, vent := false, coolFan := false }
  measA := .none
  measB := .none

/-- The default placement order (Table 3.5). -/
def defaultPlacement : List Nat := [0, 8, 4, 12, 2, 10, 6, 14, 1, 9, 5, 13, 3, 11, 7, 15]

/-- A slot that holds no load. -/
def Slot.empty : Slot :=
  { placed := .of fun _ => false, soloA := .none, soloB := .none }

/-- An empty schedule. -/
def emptyGrid : List Slot := List.replicate 16 .empty

/-- The power arbiter after reset (R60). -/
def Par.reset : Par where
  supply := { connection := .dual, budgetA := 3500, budgetB := 3500, reserveA := 150, reserveB := 0, slotHc := 100 }
  placement := defaultPlacement
  lists := { c0 := [], c1 := [.boiler], c2 := [.top, .bottom, .ring, .grill], c3 := [] }
  policies := { c0 := .fixed, c1 := .fixed, c2 := .rotating, c3 := .fixed }
  frame :=
    { state := .waiting
      slot := 0
      half := 0
      grid := emptyGrid
      withdrawn := .of fun _ => false
      inForce :=
        { connection := .dual, capA := 3350, capB := 3500, budgetA := 3500, budgetB := 3500, slotHc := 100
          charge := { top := 1200, bottom := 1100, ring := 2000, grill := 2000, boiler := 1800 }
          leg := { top := .a, bottom := .b, ring := .a, grill := .b, boiler := .b } } }

/-- A default heating mode entry (Table 4.2). -/
def modeRow (top bottom ring grill boiler : Nat) (fan : FanSpeed) (tempLoop humLoop : Bool)
    (range : Option (Int × Int)) : ModeEntry :=
  { top, bottom, ring, grill, boiler, fan, tempLoop, humLoop, range }

/-- The default heating mode table (Table 4.2). -/
def defaultTable : Vector ModeEntry 8 :=
  #v[modeRow 0 0 0 0 0 .off false false .none,
     modeRow 0 0 100 0 0 .high true false (some (300, 2500)),
     modeRow 60 100 0 0 0 .off true false (some (300, 2500)),
     modeRow 0 100 40 0 0 .low true false (some (300, 2500)),
     modeRow 0 0 0 100 0 .off true false (some (1500, 2500)),
     modeRow 0 0 0 100 0 .low true false (some (1000, 2300)),
     modeRow 0 0 0 0 100 .low true false (some (350, 1000)),
     modeRow 0 0 100 0 0 .high true true (some (500, 2300))]

/-- No climate (R64); its entry copy and vent setting are the model's (log 8). -/
def Climate.absent : Climate where
  kind := .none
  mode := 0
  entry := modeRow 0 0 0 0 0 .off false false .none
  setpoint := .none
  humSet := .none
  vent := .auto
  tempUse := false
  humUse := false

/-- The climate controller after reset (R79). -/
def Clc.reset : Clc where
  table := defaultTable
  loop := { kp := 40, ki := 6, ks := 8, period := 4, band := 5 }
  climate := .absent
  loopTimer := .none
  heat := 0
  integral := 0
  humid := 0
  demands := { top := 0, bottom := 0, ring := 0, grill := 0 }

/-- The boiler record after reset (R103). -/
def Sgc.reset : Sgc where
  state := .empty
  content := .none
  purpose := .idle
  soakedS := .none
  tankEmpty := false
  request := .none
  served := false
  lookAhead := false
  share := 0
  humQuanta := 0
  needsSteam := false
  prior := .none
  thermostat := false
  fillTimer := 0
  heatCount := 0
  drainCount := .none
  demand := 0

/-- The scale account after reset (R120). -/
def Sca.reset : Sca where
  hardness := 180
  fillMl := 150
  advise := 3000
  derate := 4500
  lock := 6000
  scaleMg := 0
  stage := .clear
  rinseDue := false
  rinseSoaked := false
  restored := false

/-- The program store after reset (R141). -/
def Pst.reset : Pst where
  programs := Vector.replicate 6 .none
  pool := Vector.replicate 96 .none

/-- The run record after reset (R165). -/
def Run.reset : Run where
  slot := .none
  state := .idle
  position := .none
  awaiting := .none
  pause := {}
  elapsedS := 0
  totalS := 0
  holdS := 0
  latched := {}
  marks := {}
  degraded := false
  lastEnd := .none
  endingCause := .none
  outcome := .none

/-- The door and limit unit after reset (R174), with the door switch reading CLOSED (log 6). -/
def Dlu.reset : Dlu where
  door := .unsettled
  input := .closed
  debounce := true
  latch := false
  causeLimit := false
  causeSensor := false

/-- The link interface after reset (R187). -/
def Lif.reset : Lif where
  rx := .hunt
  length := 0
  buffer := []
  gap := false
  pendingDef := .none
  notices := {}
  silence := false
  silent := false
  response := .none

/-- The service functions after reset (R188), with the strap low (log 6). -/
def Svc.reset : Svc where
  service := false
  forcing := .of fun _ => .none
  pattern := .none

/-- The machine right after release from reset (R188), with the SVC strap low, the door switch reading CLOSED
(log 6) and nothing commanded. -/
def State.reset : State where
  msu := .reset
  ldt := .reset
  par := .reset
  clc := .reset
  sgc := .reset
  sca := .reset
  pst := .reset
  run := .reset
  dlu := .reset
  lif := .reset
  svc := .reset
  pending := []

end Sys2Proof.Machine
end

