-- ==== Sys2Proof/Machine/Arith.lean ====
section
/-!
DEFINITION. The arithmetic of 00, Conventions: clamping, saturation, rounding, and the byte encodings of Table 10.7.
-/

namespace Sys2Proof.Machine

/-- Clamp to a range: below it the lower end, above it the upper end. -/
def clamp (lo hi x : Int) : Int := if x < lo then lo else if hi < x then hi else x

/-- A count raised by `n`, saturating at `hi`. -/
def satAdd (hi x n : Nat) : Nat := min hi (x + n)

/-- Round half up: half the divisor is added before a floor division. -/
def roundDiv (x d : Nat) : Nat := (x + d / 2) / d

/-- A small quantity: one byte, unsigned. -/
def byteOf (n : Nat) : Byte := BitVec.ofNat 8 n

/-- A flag: 0 clear, 1 set. -/
def flagByte (b : Bool) : Byte := if b then 1 else 0

/-- A 16-bit value, high byte first. -/
def wordBytes (w : Word) : List Byte := [w.extractLsb' 8 8, w.extractLsb' 0 8]

/-- Two bytes read as a 16-bit value, high byte first. -/
def wordOf (hi lo : Byte) : Word := hi ++ lo

/-- An unsigned quantity. -/
def natBytes (n : Nat) : List Byte := wordBytes (BitVec.ofNat 16 n)

/-- A signed quantity, two's complement. -/
def intBytes (i : Int) : List Byte := wordBytes (BitVec.ofInt 16 i)

/-- An optional field: a presence byte, then the field, which is zero bytes when absent. -/
def optBytes {α : Type} (width : Nat) (enc : α → List Byte) : Option α → List Byte
  | .none => 0 :: List.replicate width 0
  | some a => 1 :: enc a

/-- A set: one bit a member in listed order, the first in the lowest bit. -/
def setNat : List Bool → Nat
  | [] => 0
  | b :: bs => (if b then 1 else 0) + 2 * setNat bs

end Sys2Proof.Machine
end

