-- ==== Sys2Proof/Machine/Flags.lean ====
section
/-!
DEFINITION. The values the part derives from its records: the oven mode, ATTN, charges, the scale stage, the cooking
want, the steam demand, the BOILER demand, health bands, and the arithmetic of the two climate loops.
-/

namespace Sys2Proof.Machine

/-- The record of one load. -/
def load (s : State) (l : LoadId) : Load := s.ldt.loads.get l

/-- The oven mode (R172, Table 9.4). -/
def ovenMode (s : State) : OvenMode :=
  if s.svc.service then .service
  else if s.dlu.latch then .fault
  else if s.run.state ≠ .idle then .running
  else .standby

/-- ATTN is asserted while the notice set is not empty (R182). -/
def attn (s : State) : Bool := s.lif.notices != {}

/-- A load's charge: its measured power if it has one, otherwise its rating (R17). -/
def Load.chargeW (d : Load) : Nat := d.measuredW.getD d.ratedW

/-- The leg a load is charged to: leg A for every load of a SINGLE connection (R17). -/
def effectiveLeg (c : Connection) (l : Leg) : Leg :=
  match c with
  | .single => .a
  | .dual => l

/-- The values a build taken now copies into the frame (R40). -/
def valuesNow (s : State) : InForce where
  connection := s.par.supply.connection
  capA := s.par.supply.budgetA - s.par.supply.reserveA
  capB := s.par.supply.budgetB - s.par.supply.reserveB
  budgetA := s.par.supply.budgetA
  budgetB := s.par.supply.budgetB
  slotHc := s.par.supply.slotHc
  charge := .of fun l => (load s l).chargeW
  leg := .of fun l => effectiveLeg s.par.supply.connection (load s l).leg

/-- The capacity of a leg in force. -/
def InForce.cap (f : InForce) : Leg → Nat
  | .a => f.capA
  | .b => f.capB

/-- The budget of a leg in force. -/
def InForce.budget (f : InForce) : Leg → Nat
  | .a => f.budgetA
  | .b => f.budgetB

/-- The health band of a ratio in percent (R29). -/
def healthBand (ratio : Nat) : Health :=
  if ratio < 10 then .opened
  else if ratio < 70 then .weak
  else if ratio ≤ 120 then .good
  else .high

/-- A power in watts from 0.1 V and mA, rounded half up (R28, R32). -/
def wattsOf (volts milliamps : Nat) : Nat := roundDiv (volts * milliamps) 10000

/-- The measured power of a solo slot of `slotHc` half-cycles (R28). -/
def measuredPower (slotHc : Nat) (m : Measurement) : Nat :=
  let off := m.offSum / 4
  let on := m.onSum / (slotHc - 4)
  let volts := m.voltSum / (slotHc - 4)
  min 11200 (wattsOf volts (on - off))

/-- The stage into which the account falls under its thresholds (R105). -/
def stageOf (a : Sca) : Stage :=
  if a.scaleMg < a.advise then .clear
  else if a.scaleMg < a.derate then .advise
  else if a.scaleMg < a.lock then .derate
  else .lock

/-- The order CLEAR, ADVISE, DERATE, LOCK (R105). -/
def Stage.rank : Stage → Nat
  | .clear => 0
  | .advise => 1
  | .derate => 2
  | .lock => 3

/-- The deposit of one evaporation (R107). -/
def depositMg (a : Sca) : Nat := roundDiv (a.fillMl * a.hardness) 1000

/-- The cooking want W (R84). -/
def cookingWant (s : State) : Bool := s.sgc.lookAhead || s.sgc.needsSteam

/-- Steam is blocked while the stage is LOCK or a rinse is due (R84). -/
def steamBlocked (s : State) : Bool := s.sca.stage == .lock || s.sca.rinseDue

/-- The steam demand D (R84). -/
def steamDemand (s : State) : Nat := max s.sgc.share s.sgc.humQuanta

/-- The demand of READY or STEAMING (Table 5.3). -/
def hotDemand (s : State) (p : Prior) : Nat :=
  let hold := if s.sgc.thermostat then 16 else 0
  match p with
  | .ready => hold
  | .steaming => max (steamDemand s) hold

/-- The BOILER demand before the cap (Table 5.3). -/
def rawBoilerDemand (s : State) : Nat :=
  match s.sgc.state with
  | .empty | .filling | .standing | .draining | .fault => 0
  | .heating => 16
  | .ready => hotDemand s .ready
  | .steaming => hotDemand s .steaming
  | .refilling => hotDemand s (s.sgc.prior.getD .ready)
  | .soaking => if s.sgc.thermostat then 16 else 0

/-- The BOILER demand: capped at 12 while the stage is DERATE (R91). -/
def boilerDemand (s : State) : Nat :=
  if s.sca.stage == .derate then min Config.derateCap (rawBoilerDemand s) else rawBoilerDemand s

/-- Whether the boiler temperature is present with its fault clear (R88, R95). -/
def boilerTempOk (s : State) : Bool := s.msu.boiler.filtered.isSome && !s.msu.boiler.fault

/-! ## The climate loops (R68 to R73) -/

/-- The error e (R68, stage 1). -/
def loopError (setpoint t : Int) : Int := clamp (-1000) 1000 (setpoint - t)

/-- The candidate integral (R68, stage 3). -/
def integralNext (ki : Nat) (e : Int) (i16 : Nat) : Int :=
  clamp 0 16000 (i16 + (ki * e).tdiv 16)

/-- The raw demand (R68, stages 2 and 4). -/
def heatRaw (kp : Nat) (e iNext : Int) : Int := (kp * e).tdiv 64 + iNext / 16

/-- H (R68, stage 5). -/
def heatOf (raw : Int) : Nat := (clamp 0 1000 raw).toNat

/-- I16 after the update, held while the demand is saturated in the direction of the error and while the run is
paused (R69). -/
def integralAfter (paused : Bool) (raw e iNext : Int) (i16 : Nat) : Nat :=
  if (1000 < raw ∧ 0 < e) ∨ (raw < 0 ∧ e < 0) ∨ paused then i16 else iNext.toNat

/-- The quanta of a weight (R72). -/
def quantaOf (h w : Nat) : Nat := (h * w * 16 + 50000) / 100000

/-- G (R73). -/
def humidDemand (ks : Nat) (humSet h : Int) : Nat := (clamp 0 1000 (ks * (humSet - h) * 10)).toNat

/-- The humidity quanta (R73). -/
def humQuantaOf (g : Nat) : Nat := (g * 16 + 500) / 1000

end Sys2Proof.Machine
end

