-- ==== Sys2Proof/Machine/Ops.lean ====
section
/-!
DEFINITION. The named operations over the records that several blocks share: load records and their mask-reason sets,
the notice set, the auxiliary outputs, and what follows a change of the oven mode.
-/

namespace Sys2Proof.Machine

/-- Replace the record of one load. -/
def setLoad (s : State) (l : LoadId) (d : Load) : State :=
  { s with ldt := { s.ldt with loads := s.ldt.loads.set l d } }

/-- Change the record of one load. -/
def updLoad (f : Load → Load) (l : LoadId) (s : State) : State := setLoad s l (f (load s l))

/-- Raise a notice: a kind already present leaves the set as it was (R182). -/
def raise (k : Notice) (s : State) : State :=
  { s with lif := { s.lif with notices := s.lif.notices.add k } }

/-- Void a measurement of the load named (R27). -/
def voidLoad (l : LoadId) : Option Measurement → Option Measurement
  | .none => .none
  | some m => some { m with void := m.void || m.load == l }

/-- Void a measurement, whatever its load (R27). -/
def voidAny : Option Measurement → Option Measurement
  | .none => .none
  | some m => some { m with void := true }

/-- Put a load into the withdrawn set of the frame (R57); no frame runs in WAITING (log 21). -/
def withdraw (l : LoadId) (s : State) : State :=
  match s.par.frame.state with
  | .waiting => s
  | .firing | .halted =>
    { s with par := { s.par with frame := { s.par.frame with withdrawn := s.par.frame.withdrawn.set l true } } }

/-- Add a mask reason to a load (R19, R20, R57): one already present leaves everything as it was; otherwise the
load is switched off at once, withdrawn from the frame, and its open measurement is voided (R27). -/
def addReason (r : Reason) (l : LoadId) (s : State) : State :=
  if (load s l).mask.has r then s
  else
    let s := updLoad (fun d => { d with mask := d.mask.put r true, on := false }) l s
    let s := { s with ldt := { s.ldt with measA := voidLoad l s.ldt.measA, measB := voidLoad l s.ldt.measB } }
    withdraw l s

/-- Remove a mask reason from a load (R19). -/
def removeReason (r : Reason) (l : LoadId) (s : State) : State :=
  updLoad (fun d => { d with mask := d.mask.put r false }) l s

/-- Make a reason present or absent. -/
def putReason (b : Bool) (r : Reason) (l : LoadId) (s : State) : State :=
  if b then addReason r l s else removeReason r l s

/-- Add a reason to each load of a list. -/
def addReasonTo (r : Reason) (ls : List LoadId) (s : State) : State := ls.foldl (fun s l => addReason r l s) s

/-- Remove a reason from each load of a list. -/
def removeReasonFrom (r : Reason) (ls : List LoadId) (s : State) : State := ls.foldl (fun s l => removeReason r l s) s

/-- Write a load's demand (R18). -/
def setDemand (n : Nat) (l : LoadId) (s : State) : State := updLoad (fun d => { d with demand := n }) l s

/-- Set a load's `verify_due` (R24). -/
def setVerify (l : LoadId) (s : State) : State := updLoad (fun d => { d with verifyDue := true }) l s

/-- Set the auxiliary outputs (R22): a change voids a leg A measurement in progress (R27). -/
def setAux (a : Aux) (s : State) : State :=
  if s.ldt.aux = a then s else { s with ldt := { s.ldt with aux := a, measA := voidAny s.ldt.measA } }

/-- LAMP is ON while the door is OPEN or the mode is RUNNING (R23). -/
def evalLamp (s : State) : State :=
  setAux { s.ldt.aux with lamp := s.dlu.door == .opened || ovenMode s == .running } s

/-- The silence timer on a change of the oven mode (R185). -/
def evalSilence (s : State) : State :=
  { s with lif := { s.lif with silence := ovenMode s == .running, silent := false } }

/-- What follows when the oven mode may have changed from `old` (R172): LAMP and the silence timer. -/
def noteMode (old : OvenMode) (s : State) : State :=
  if ovenMode s = old then s else evalSilence (evalLamp s)

/-- FAN by the first case of R76 that applies. -/
def fanValue (s : State) : FanSpeed :=
  if s.dlu.door = .opened then .off
  else if s.clc.climate.kind ≠ .none then s.clc.climate.entry.fan
  else match s.msu.cavity.filtered with
    | some t => if Config.coolDown < t then .low else .off
    | .none => .off

/-- Set FAN (R76). -/
def evalFan (s : State) : State := setAux { s.ldt.aux with fan := fanValue s } s

end Sys2Proof.Machine
end

