-- ==== Sys2Proof/WellFormed.lean ====
section
/-!
DEFINITION. Which commands the world can send. A raw sample is a two-byte signed value, a mains value a two-byte
unsigned one (Table 10.7 sends them so), a body has a length that the link can carry and Table 10.4 allows, and a
BAD_CHECK_FRAME or UNKNOWN_REQUEST is what its name says. `exec` is total: it gives an ill-formed command the meaning
of the bytes it stands for.
-/

namespace Sys2Proof

/-- The exclusive-or check byte of a request frame whose length byte is code plus body (10.1). -/
def checkByte (code : Byte) (body : List Byte) : Byte :=
  body.foldl (fun a b => a ^^^ b) (BitVec.ofNat 8 (body.length + 1) ^^^ code)

/-- The codes of Table 10.4. -/
def knownCodes : List Byte :=
  [0x01, 0x02, 0x03, 0x04, 0x05, 0x06, 0x07, 0x08, 0x09,
   0x10, 0x11, 0x12, 0x13, 0x14, 0x15, 0x16, 0x17,
   0x20, 0x21, 0x22, 0x23, 0x24, 0x25, 0x26,
   0x30, 0x31, 0x32, 0x33, 0x34, 0x35, 0x36, 0x37,
   0x40, 0x41, 0x42, 0x50, 0x51, 0x5F]

/-- Mains values fit their two-byte fields. -/
def Crossing.wf (z : Crossing) : Bool :=
  decide (z.volts < 65536) && decide (z.ampsA < 65536) && decide (z.ampsB < 65536)

/-- A raw sample fits its two-byte signed field. -/
def rawWf (raw : Int) : Bool :=
  decide (-32768 ≤ raw) && decide (raw < 32768)

/-- A body fits a frame: the length byte lies in 1..49 (R175). -/
def bodyWf (body : List Byte) : Bool :=
  decide (body.length ≤ 48)

/-- The commands the world can send. -/
def Instr.wf : Instr → Bool
  | .analogSample _ raw => rawWf raw
  | .probeSample _ raw => rawWf raw
  | .zeroCross z => z.wf
  | .slotEnd z => z.wf
  | .frameBoundary z => z.wf
  | .soloBaselineEnd z => z.wf
  | .badCheckFrame code body check => bodyWf body && decide (check ≠ checkByte code body)
  | .unknownRequest code body => bodyWf body && !knownCodes.contains code
  | .setPlacement slots => decide (slots.length = 16)
  | .setRotation _ _ members => decide ((members.getD []).length ≤ 5)
  | .resetRelease _ _ | .electrodeSample _ _ | .mainsSample _ | .supplyLoss
  | .doorSwitchChange _ | .doorDebounceExpiry | .loopUpdate | .sgcClockTick
  | .fillTimeout | .refillTimeout | .heatTimeout | .drainComplete
  | .soakDurationReached | .stepTick | .stepDurationExpiry | .holdTimeout
  | .linkByte _ | .gapTimeout | .responseComplete | .linkSilence
  | .readStatus | .readMeasurements | .readLoad _ | .readFrame | .readProgram _
  | .readStep _ _ | .readScale | .readNotices | .clearNotices _
  | .setLoad _ _ _ _ | .setSupply _ | .setModeEntry _ | .setLoop _ _ _ _ _
  | .setWater _ | .setScale _ _ _ | .defineProgramPart0 _ _ _ _ _
  | .defineProgramPart1 _ _ _ | .retireProgram _ | .appendStep _ _
  | .insertStep _ _ _ | .replaceStep _ _ _ | .deleteStep _ _ | .setVariable _ _ _
  | .start _ | .pause | .resume | .confirm | .skip | .adjustTemp _
  | .adjustHumidity _ | .adjustDuration _ | .endHold | .abort | .rotateLowest _
  | .verify _ | .clearFaultOven _ | .clearFaultBoiler _ | .clearFaultLoad _
  | .forceOn _ | .forceOff _ | .forceRelease _ | .patternAllOff | .patternWalk
  | .patternAlternate | .patternNone | .init => true

end Sys2Proof
end

