-- ==== Sys2Proof/Machine/Operands.lean ====
section
/-!
DEFINITION. What commands name and how it is read: the lists and records of the program store (07), quantity
expressions, step records as they cross the link, and request frames (10, R175, R179, R186).
-/

namespace Sys2Proof.Machine

/-! ## Reading the program store -/

/-- The fixed steps of DESCALE (Table 6.7). -/
def descaleSteps : List Step :=
  [.boilerDrain, .confirm 250, .boilerFill .descaler, .boilerSoak 600 1800, .boilerDrain, .confirm 251,
   .boilerFill .water, .boilerSoak 900 300, .boilerDrain, .boilerFill .water, .boilerSoak 900 300, .boilerDrain]

/-- The fixed steps of RINSE (Table 6.8). -/
def rinseSteps : List Step :=
  [.confirm 252, .boilerFill .water, .boilerSoak 900 300, .boilerDrain, .boilerFill .water, .boilerSoak 900 300,
   .boilerDrain]

/-- The program of a user slot, where it is DEFINED (R122). -/
def userProgram (s : State) (slot : Nat) : Option Program :=
  if 2 ≤ slot then (s.pst.programs[slot - 2]?).join else .none

/-- Whether a slot of 0..7 is DEFINED: slots 0 and 1 always are (R122). -/
def slotDefined (s : State) (slot : Nat) : Bool := decide (slot < 2) || (userProgram s slot).isSome

/-- The length of a slot's step list. -/
def stepCount (s : State) (slot : Nat) : Nat :=
  match slot with
  | 0 => descaleSteps.length
  | 1 => rinseSteps.length
  | n => ((userProgram s n).map fun p => p.steps.length).getD 0

/-- The step record at a position of a slot's list. -/
def stepAt (s : State) (slot pos : Nat) : Option Step :=
  match slot with
  | 0 => descaleSteps[pos]?
  | 1 => rinseSteps[pos]?
  | n => (userProgram s n).bind fun p => (p.steps[pos]?).bind fun r => (s.pst.pool[r]?).join

/-- The variables of a slot; the system programs hold none (R123). -/
def slotVars (s : State) (slot : Nat) : Vector (Option Variable) 8 :=
  ((userProgram s slot).map fun p => p.vars).getD (Vector.replicate 8 .none)

/-- Whether the run record is ACTIVE or AWAIT_CONFIRM, where a step is current (08, 8.1). -/
def hasCurrent (s : State) : Bool := s.run.state == .active || s.run.state == .awaitConfirm

/-- The current step: the step at `position` while the run is ACTIVE or AWAIT_CONFIRM (08, 8.1). -/
def currentStep (s : State) : Option Step :=
  if hasCurrent s then
    match s.run.slot, s.run.position with
    | some slot, some pos => stepAt s slot pos
    | _, _ => .none
  else .none

/-- A step needs steam when it is a CLIMATE step whose heating mode, as the table stands, needs steam (R84). -/
def isSteamStep (s : State) : Step → Bool
  | .climate c => (s.clc.table[c.mode]).needsSteam
  | _ => false

/-- A step needs the boiler when it is a steam step, a BOILER_FILL or a BOILER_SOAK step (08, 8.1). -/
def needsBoiler (s : State) : Step → Bool
  | .boilerFill _ | .boilerSoak _ _ => true
  | st => isSteamStep s st

/-- Whether a slot is the running slot (R122). -/
def isRunningSlot (s : State) (slot : Nat) : Bool := s.run.state != .idle && s.run.slot == some slot

/-- Whether a run of a system program is in progress (R117). -/
def runsSystem (s : State) : Bool := isRunningSlot s 0 || isRunningSlot s 1

/-! ## Quantity expressions (R127) -/

/-- A variable's value; a step names only present variables (R123). -/
def varValue (vars : Vector (Option Variable) 8) (i : Fin 8) : Int := ((vars[i]).map fun v => (v.value : Int)).getD 0

/-- The exact sum of an expression's terms. -/
def exprSum (vars : Vector (Option Variable) 8) (e : Expr) : Int :=
  let base := (e.base.map (varValue vars)).getD 0
  let index := (e.index.map fun i => varValue vars i * e.scale).getD 0
  if e.minus then e.disp + base - index else e.disp + base + index

/-- The range of `temp` in a mode: the entry's, or 300..2500 when it has none (Table 7.5). -/
def tempRange (e : ModeEntry) : Int × Int := e.range.getD (300, 2500)

/-- Evaluate an expression against a range: the value, and whether the clamp changed the sum. -/
def evalExpr (vars : Vector (Option Variable) 8) (range : Int × Int) (e : Expr) : Int × Bool :=
  let v := clamp range.1 range.2 (exprSum vars e)
  (v, decide (v ≠ exprSum vars e))

/-- The four evaluations of a CLIMATE step, where it has the expressions. -/
structure StepValues where
  temp : Option (Int × Bool)
  humidity : Option (Int × Bool)
  duration : Option (Int × Bool)
  core : Option (Int × Bool)
  deriving DecidableEq, Repr

/-- Evaluate a CLIMATE step's expressions as the table and the variables stand (R127, Table 7.5). -/
def evalStep (s : State) (slot : Nat) (c : ClimateStep) : StepValues :=
  let vars := slotVars s slot
  { temp := c.temp.map (evalExpr vars (tempRange (s.clc.table[c.mode])))
    humidity := c.humidity.map (evalExpr vars (0, 100))
    duration := c.duration.map (evalExpr vars (0, 65535))
    core := c.core.map (evalExpr vars (200, 990)) }

/-- Whether any evaluation was clamped. -/
def StepValues.clamped (v : StepValues) : Bool :=
  let c (o : Option (Int × Bool)) := (o.map Prod.snd).getD false
  c v.temp || c v.humidity || c v.duration || c v.core

/-- The values as latched quantities (R146). -/
def StepValues.latched (v : StepValues) : Latched where
  temp := v.temp.map Prod.fst
  humidity := v.humidity.map Prod.fst
  duration := v.duration.map fun p => p.1.toNat
  core := v.core.map Prod.fst

/-- Whether an expression names a variable as base or index. -/
def Expr.names (e : Expr) (i : Fin 8) : Bool := e.base == some i || e.index == some i

/-- Whether a step's expressions name a variable. -/
def Step.names (i : Fin 8) : Step → Bool
  | .climate c =>
    let n (o : Option Expr) := (o.map fun e => e.names i).getD false
    n c.temp || n c.humidity || n c.duration || n c.core
  | _ => false

/-! ## Step records as they cross the link (R124, R125, R186) -/

/-- A variable number: 0..7, or 0xFF absent; anything else lies outside its values. -/
def varRef (b : Byte) : Option (Option (Fin 8)) :=
  if b = 0xFF then some .none else if h : b.toNat < 8 then some (some ⟨b.toNat, h⟩) else .none

/-- A scale byte: 1, 2, 4 or 8, plus 0x80 when the sign is minus. -/
def scaleOf (b : Byte) : Option (Nat × Bool) :=
  if b = 0x01 then some (1, false) else if b = 0x02 then some (2, false)
  else if b = 0x04 then some (4, false) else if b = 0x08 then some (8, false)
  else if b = 0x81 then some (1, true) else if b = 0x82 then some (2, true)
  else if b = 0x84 then some (4, true) else if b = 0x88 then some (8, true)
  else .none

/-- An expression, where its fields lie in their values (R125). -/
def exprOf (r : RawExpr) : Option Expr :=
  match varRef r.base, varRef r.index, scaleOf r.scale with
  | some base, some index, some (scale, minus) => some { disp := r.disp.toInt, base, index, scale, minus }
  | _, _, _ => .none

/-- An expression field: absent when its presence bit is clear, and then its bytes are not read. -/
def exprField (present : Bool) (r : RawExpr) : Option (Option Expr) :=
  if present then (exprOf r).map some else some .none

/-- The end field (Table 10.8). -/
def endOf (b : Byte) : Option EndCond :=
  if b = 0 then some .time else if b = 1 then some .core else if b = 2 then some .reached
  else if b = 3 then some .confirm else .none

/-- The on_end field (Table 10.8). -/
def onEndOf (b : Byte) : Option OnEnd :=
  if b = 0 then some .continue else if b = 1 then some .pause else .none

/-- The vent field (Table 10.8). -/
def ventOf (b : Byte) : Option VentSetting :=
  if b = 0 then some .auto else if b = 1 then some .opened else .none

/-- Whether a CLIMATE record carries exactly the fields its mode and end call for (Table 7.3). -/
def presenceOk (e : ModeEntry) (c : ClimateStep) : Bool :=
  c.temp.isSome == e.tempLoop && c.humidity.isSome == e.humLoop && c.core.isSome == (c.endCond == .core)
    && (match c.endCond with
        | .time => c.duration.isSome
        | .core => true
        | .reached => e.tempLoop
        | .confirm => c.duration.isNone)

/-- A CLIMATE record checked against Table 7.3 and the heating mode table (R124, R125); none is a RANGE fault. -/
def climateOf (table : Vector ModeEntry 8) (r : RawStep) : Option ClimateStep :=
  if hm : r.mode.toNat < 8 then
    match endOf r.endCond, onEndOf r.onEnd, ventOf r.vent, exprField (r.presence.getLsbD 0) r.temp,
        exprField (r.presence.getLsbD 1) r.humidity, exprField (r.presence.getLsbD 2) r.duration,
        exprField (r.presence.getLsbD 3) r.core with
    | some endCond, some onEnd, some vent, some temp, some humidity, some duration, some core =>
      let c : ClimateStep :=
        { mode := ⟨r.mode.toNat, hm⟩, temp, humidity, endCond, duration, core, onEnd, vent
          prompt := r.prompt.toNat }
      if presenceOk (table[c.mode]) c && decide (r.presence.toNat < 16) then some c else .none
    | _, _, _, _, _, _, _ => .none
  else .none

/-- A step record for a user slot (R124); none is a RANGE fault. Boiler kinds are refused before this is asked. The
presence byte of a CONFIRM record is not read (log 36). -/
def userStepOf (table : Vector ModeEntry 8) (r : RawStep) : Option Step :=
  if r.kind = 0 then (climateOf table r).map Step.climate
  else if r.kind = 1 then some (.confirm r.prompt.toNat)
  else .none

/-- A boiler kind, which no user slot may hold (R124). -/
def isBoilerKind (r : RawStep) : Bool := r.kind == 2 || r.kind == 3 || r.kind == 4

/-- Whether a variable byte names an absent variable (R125). -/
def namesAbsentVar (vars : Vector (Option Variable) 8) (b : Byte) : Bool :=
  if h : b.toNat < 8 then (vars[b.toNat]).isNone else false

/-- Whether an expression of a CLIMATE record names an absent variable (R125). -/
def namesAbsent (vars : Vector (Option Variable) 8) (r : RawStep) : Bool :=
  let n (i : Nat) (e : RawExpr) :=
    r.presence.getLsbD i && (namesAbsentVar vars e.base || namesAbsentVar vars e.index)
  r.kind == 0 && (n 0 r.temp || n 1 r.humidity || n 2 r.duration || n 3 r.core)

/-! ## Request frames (10.1, Table 10.4, R186) -/

/-- The bytes of an expression. -/
def rawExprBytes (e : RawExpr) : List Byte := wordBytes e.disp ++ [e.base, e.index, e.scale]

/-- The 27 bytes of a step record. -/
def rawStepBytes (r : RawStep) : List Byte :=
  [r.kind, r.mode, r.endCond, r.onEnd, r.vent, r.prompt, r.presence]
    ++ rawExprBytes r.temp ++ rawExprBytes r.humidity ++ rawExprBytes r.duration ++ rawExprBytes r.core

/-- The bytes of a variable entry. -/
def rawVarBytes (v : RawVar) : List Byte := v.presence :: (wordBytes v.value ++ wordBytes v.min ++ wordBytes v.max)

/-- The bytes of four variable entries. -/
def rawVarsBytes (v : RawVars) : List Byte := rawVarBytes v.v0 ++ rawVarBytes v.v1 ++ rawVarBytes v.v2 ++ rawVarBytes v.v3

/-- The code of a request (Table 10.4). -/
def requestCode : Request → Byte
  | .readStatus => 0x01
  | .readMeasurements => 0x02
  | .readLoad _ => 0x03
  | .readFrame => 0x04
  | .readProgram _ => 0x05
  | .readStep _ _ => 0x06
  | .readScale => 0x07
  | .readNotices => 0x08
  | .clearNotices _ => 0x09
  | .setLoad _ _ _ _ => 0x10
  | .setSupply _ => 0x11
  | .setPlacement _ => 0x12
  | .setRotation _ _ _ => 0x13
  | .setModeEntry _ => 0x14
  | .setLoop _ _ _ _ _ => 0x15
  | .setWater _ => 0x16
  | .setScale _ _ _ => 0x17
  | .defineProgram0 _ _ _ _ _ => 0x20
  | .defineProgram1 _ _ _ => 0x20
  | .retireProgram _ => 0x21
  | .appendStep _ _ => 0x22
  | .insertStep _ _ _ => 0x23
  | .replaceStep _ _ _ => 0x24
  | .deleteStep _ _ => 0x25
  | .setVariable _ _ _ => 0x26
  | .start _ => 0x30
  | .pause => 0x31
  | .resume => 0x32
  | .confirm => 0x33
  | .skip => 0x34
  | .adjust _ _ => 0x35
  | .endHold => 0x36
  | .abort => 0x37
  | .rotateLowest _ => 0x40
  | .verify _ => 0x41
  | .clearFault _ _ => 0x42
  | .force _ _ => 0x50
  | .pattern _ => 0x51
  | .init => 0x5F

/-- The body of a request, in the field order of Table 10.4. The part byte of DEFINE_PROGRAM stands after the slot
(log 11). -/
def requestBody : Request → List Byte
  | .readStatus | .readMeasurements | .readFrame | .readScale | .readNotices => []
  | .readLoad l => [l]
  | .readProgram slot => [slot]
  | .readStep slot pos => [slot, pos]
  | .clearNotices kinds => wordBytes kinds
  | .setLoad l w c g => l :: (wordBytes w ++ [c, g])
  | .setSupply b =>
    b.connection :: (wordBytes b.budgetA ++ wordBytes b.budgetB ++ wordBytes b.reserveA ++ wordBytes b.reserveB
      ++ [b.slotHc])
  | .setPlacement slots => slots
  | .setRotation c p .none => [c, p, 0xFF]
  | .setRotation c p (some ms) => c :: p :: byteOf ms.length :: ms
  | .setModeEntry b =>
    [b.entry, b.top, b.bottom, b.ring, b.grill, b.boiler, b.fan, b.tempLoop, b.humLoop]
      ++ wordBytes b.min ++ wordBytes b.max
  | .setLoop kp ki ks period band => [kp, ki, ks, period, band]
  | .setWater b =>
    wordBytes b.hardness ++ wordBytes b.fillMl ++ wordBytes b.advise ++ wordBytes b.derate ++ wordBytes b.lock
  | .setScale mg due hard => wordBytes mg ++ [due] ++ wordBytes hard
  | .defineProgram0 slot part tag keep vars =>
    slot :: part :: (wordBytes tag ++ wordBytes keep ++ rawVarsBytes vars)
  | .defineProgram1 slot part vars => slot :: part :: rawVarsBytes vars
  | .retireProgram slot => [slot]
  | .appendStep slot step => slot :: rawStepBytes step
  | .insertStep slot pos step => slot :: pos :: rawStepBytes step
  | .replaceStep slot pos step => slot :: pos :: rawStepBytes step
  | .deleteStep slot pos => [slot, pos]
  | .setVariable slot var value => slot :: var :: wordBytes value
  | .start slot => [slot]
  | .pause | .resume | .confirm | .skip | .endHold | .abort | .init => []
  | .adjust q v => q :: wordBytes v
  | .rotateLowest l => [l]
  | .verify l => [l]
  | .clearFault target l => [target, l]
  | .force l a => [l, a]
  | .pattern p => [p]

/-- Whether a request has a body length that Table 10.4 allows; only the two lists can miss it. -/
def requestLengthOk : Request → Bool
  | .setPlacement slots => decide (slots.length = 16)
  | .setRotation _ _ (some ms) => decide (ms.length ≤ 5)
  | _ => true

/-- What a code and a body say (R178, checks 2 and 3). -/
inductive Decoded where
  | unknown
  | badLength
  | request (r : Request)
  deriving DecidableEq, Repr

/-- A body of no bytes. -/
def body0 (r : Request) : List Byte → Decoded
  | [] => .request r
  | _ => .badLength

/-- A body of one byte. -/
def body1 (f : Byte → Request) : List Byte → Decoded
  | [a] => .request (f a)
  | _ => .badLength

/-- A body of two bytes. -/
def body2 (f : Byte → Byte → Request) : List Byte → Decoded
  | [a, b] => .request (f a b)
  | _ => .badLength

/-- The 27 bytes of a step record, read back. -/
def rawStepOf : List Byte → Option RawStep
  | [k, m, e, o, v, p, n, t0, t1, t2, t3, t4, h0, h1, h2, h3, h4, d0, d1, d2, d3, d4, c0, c1, c2, c3, c4] =>
    some
      { kind := k, mode := m, endCond := e, onEnd := o, vent := v, prompt := p, presence := n
        temp := { disp := wordOf t0 t1, base := t2, index := t3, scale := t4 }
        humidity := { disp := wordOf h0 h1, base := h2, index := h3, scale := h4 }
        duration := { disp := wordOf d0 d1, base := d2, index := d3, scale := d4 }
        core := { disp := wordOf c0 c1, base := c2, index := c3, scale := c4 } }
  | _ => .none

/-- The 28 bytes of four variable entries, read back. -/
def rawVarsOf : List Byte → Option RawVars
  | [p0, a0, b0, c0, d0, e0, f0, p1, a1, b1, c1, d1, e1, f1, p2, a2, b2, c2, d2, e2, f2, p3, a3, b3, c3, d3, e3,
      f3] =>
    some
      { v0 := { presence := p0, value := wordOf a0 b0, min := wordOf c0 d0, max := wordOf e0 f0 }
        v1 := { presence := p1, value := wordOf a1 b1, min := wordOf c1 d1, max := wordOf e1 f1 }
        v2 := { presence := p2, value := wordOf a2 b2, min := wordOf c2 d2, max := wordOf e2 f2 }
        v3 := { presence := p3, value := wordOf a3 b3, min := wordOf c3 d3, max := wordOf e3 f3 } }
  | _ => .none

/-- A step record body with a leading slot. -/
def bodySlotStep (f : Byte → RawStep → Request) : List Byte → Decoded
  | slot :: rest =>
    match rawStepOf rest with
    | some r => .request (f slot r)
    | .none => .badLength
  | [] => .badLength

/-- A step record body with a leading slot and position. -/
def bodyPosStep (f : Byte → Byte → RawStep → Request) : List Byte → Decoded
  | slot :: pos :: rest =>
    match rawStepOf rest with
    | some r => .request (f slot pos r)
    | .none => .badLength
  | _ => .badLength

/-- The body of CLEAR_NOTICES. -/
def bodyKinds : List Byte → Decoded
  | [a, b] => .request (.clearNotices (wordOf a b))
  | _ => .badLength

/-- The body of SET_LOAD. -/
def bodySetLoad : List Byte → Decoded
  | [l, a, b, c, g] => .request (.setLoad l (wordOf a b) c g)
  | _ => .badLength

/-- The body of SET_SUPPLY. -/
def bodySetSupply : List Byte → Decoded
  | [n, a, b, c, d, e, f, g, h, hc] =>
    .request (.setSupply
      { connection := n, budgetA := wordOf a b, budgetB := wordOf c d, reserveA := wordOf e f,
        reserveB := wordOf g h, slotHc := hc })
  | _ => .badLength

/-- The body of SET_PLACEMENT: sixteen entries. -/
def bodySetPlacement (body : List Byte) : Decoded :=
  if body.length = 16 then .request (.setPlacement body) else .badLength

/-- The body of SET_ROTATION (R179): a count of 0..5 and that many members, or 0xFF and none. -/
def bodySetRotation : List Byte → Decoded
  | c :: p :: n :: ms =>
    if n = 0xFF then (if ms.isEmpty then .request (.setRotation c p .none) else .badLength)
    else if n.toNat ≤ 5 ∧ ms.length = n.toNat then .request (.setRotation c p (some ms))
    else .badLength
  | _ => .badLength

/-- The body of SET_MODE_ENTRY. -/
def bodySetModeEntry : List Byte → Decoded
  | [e, w0, w1, w2, w3, w4, fan, tl, hl, a, b, c, d] =>
    .request (.setModeEntry
      { entry := e, top := w0, bottom := w1, ring := w2, grill := w3, boiler := w4, fan := fan, tempLoop := tl,
        humLoop := hl, min := wordOf a b, max := wordOf c d })
  | _ => .badLength

/-- The body of SET_LOOP. -/
def bodySetLoop : List Byte → Decoded
  | [a, b, c, d, e] => .request (.setLoop a b c d e)
  | _ => .badLength

/-- The body of SET_WATER. -/
def bodySetWater : List Byte → Decoded
  | [a, b, c, d, e, f, g, h, i, j] =>
    .request (.setWater
      { hardness := wordOf a b, fillMl := wordOf c d, advise := wordOf e f, derate := wordOf g h,
        lock := wordOf i j })
  | _ => .badLength

/-- The body of SET_SCALE. -/
def bodySetScale : List Byte → Decoded
  | [a, b, due, c, d] => .request (.setScale (wordOf a b) due (wordOf c d))
  | _ => .badLength

/-- The body of DEFINE_PROGRAM: 34 bytes for part 0 and 30 for part 1 (R181). -/
def bodyDefine : List Byte → Decoded
  | slot :: part :: t0 :: t1 :: k0 :: k1 :: rest =>
    match rawVarsOf rest with
    | some vars => .request (.defineProgram0 slot part (wordOf t0 t1) (wordOf k0 k1) vars)
    | .none =>
      match rawVarsOf (t0 :: t1 :: k0 :: k1 :: rest) with
      | some vars => .request (.defineProgram1 slot part vars)
      | .none => .badLength
  | _ => .badLength

/-- The body of SET_VARIABLE. -/
def bodySetVariable : List Byte → Decoded
  | [slot, var, a, b] => .request (.setVariable slot var (wordOf a b))
  | _ => .badLength

/-- The body of ADJUST. -/
def bodyAdjust : List Byte → Decoded
  | [q, a, b] => .request (.adjust q (wordOf a b))
  | _ => .badLength

/-- Read a request from its code and body (R178, checks 2 and 3; Table 10.4). -/
def decodeRequest (code : Byte) (body : List Byte) : Decoded :=
  if code = 0x01 then body0 .readStatus body
  else if code = 0x02 then body0 .readMeasurements body
  else if code = 0x03 then body1 .readLoad body
  else if code = 0x04 then body0 .readFrame body
  else if code = 0x05 then body1 .readProgram body
  else if code = 0x06 then body2 .readStep body
  else if code = 0x07 then body0 .readScale body
  else if code = 0x08 then body0 .readNotices body
  else if code = 0x09 then bodyKinds body
  else if code = 0x10 then bodySetLoad body
  else if code = 0x11 then bodySetSupply body
  else if code = 0x12 then bodySetPlacement body
  else if code = 0x13 then bodySetRotation body
  else if code = 0x14 then bodySetModeEntry body
  else if code = 0x15 then bodySetLoop body
  else if code = 0x16 then bodySetWater body
  else if code = 0x17 then bodySetScale body
  else if code = 0x20 then bodyDefine body
  else if code = 0x21 then body1 .retireProgram body
  else if code = 0x22 then bodySlotStep .appendStep body
  else if code = 0x23 then bodyPosStep .insertStep body
  else if code = 0x24 then bodyPosStep .replaceStep body
  else if code = 0x25 then body2 .deleteStep body
  else if code = 0x26 then bodySetVariable body
  else if code = 0x30 then body1 .start body
  else if code = 0x31 then body0 .pause body
  else if code = 0x32 then body0 .resume body
  else if code = 0x33 then body0 .confirm body
  else if code = 0x34 then body0 .skip body
  else if code = 0x35 then bodyAdjust body
  else if code = 0x36 then body0 .endHold body
  else if code = 0x37 then body0 .abort body
  else if code = 0x40 then body1 .rotateLowest body
  else if code = 0x41 then body1 .verify body
  else if code = 0x42 then body2 .clearFault body
  else if code = 0x50 then body2 .force body
  else if code = 0x51 then body1 .pattern body
  else if code = 0x5F then body0 .init body
  else .unknown

end Sys2Proof.Machine
end

