-- ==== Sys2Proof/Machine/Scale.lean ====
section
/-!
DEFINITION. The scale account (06) up to what it hands to the other blocks, and the run engine's DEGRADED mark (R159),
which every such hand-over judges.
-/

namespace Sys2Proof.Machine

/-- Whether steam cannot be given (R159). -/
def steamDenied (s : State) : Bool := steamBlocked s || s.sgc.state == .fault

/-- Set DEGRADED when a steam step is current and steam cannot be given to it (R159). -/
def judgeDegraded (s : State) : State :=
  if ((currentStep s).map (isSteamStep s)).getD false && steamDenied s then
    { s with run := { s.run with degraded := true } }
  else s

/-- SCALE stands on BOILER while the stage is LOCK and the purpose is COOK or IDLE (R109). -/
def evalScaleMask (s : State) : State :=
  putReason (s.sca.stage == .lock && (s.sgc.purpose == .cook || s.sgc.purpose == .idle)) .scale .boiler s

/-- Raise the notice of each stage entered by a rise from `old` to `new` (R106). -/
def raiseStages (old new : Stage) (s : State) : State :=
  let entered (g : Stage) : Bool := decide (old.rank < g.rank) && decide (g.rank ≤ new.rank)
  let s := if entered .advise then raise .scaleAdvise s else s
  let s := if entered .derate then raise .scaleDerate s else s
  if entered .lock then raise .scaleLock s else s

/-- Derive the stage anew (R105): on a change store it, raise the notices of a rise, re-evaluate SCALE, and hand it
to the run engine. The steam generator judges it where the caller hands it on (`judgeBoiler`). -/
def deriveStage (s : State) : State :=
  let new := stageOf s.sca
  if new = s.sca.stage then s
  else
    let old := s.sca.stage
    let s := { s with sca := { s.sca with stage := new } }
    judgeDegraded (evalScaleMask (raiseStages old new s))

/-- One evaporation at the account (R107). -/
def takeDeposit (s : State) : State :=
  deriveStage
    { s with sca := { s.sca with scaleMg := satAdd Config.countMax s.sca.scaleMg (depositMg s.sca) } }

/-- A fill start at the account (R111). -/
def takeFillStart (c : FillContent) (s : State) : State :=
  match c with
  | .water => s
  | .descaler => judgeDegraded { s with sca := { s.sca with rinseDue := true, rinseSoaked := false } }

/-- A drain completion at the account, judged on the boiler's content record as it stands (R112). -/
def takeDrain (s : State) : State :=
  let soaked := s.sgc.soakedS.getD 0
  if s.sgc.content = .descaler ∧ Config.descaleSoakMin ≤ soaked then
    deriveStage { s with sca := { s.sca with scaleMg := 0 } }
  else if s.sgc.content = .water ∧ s.sgc.purpose = .rinse ∧ Config.rinseSoakMin ≤ soaked then
    { s with sca := { s.sca with rinseSoaked := true } }
  else s

end Sys2Proof.Machine
end

