-- ==== Sys2Proof/Machine/Boiler.lean ====
section
/-!
DEFINITION. The steam generator (05): what each boiler state holds, the judgement of a state on what is asked of it,
fills, refills, drains and soaks, and the boiler's faults.
-/

namespace Sys2Proof.Machine

/-- States in which the steam generator holds LEVEL on BOILER (Table 5.2). -/
def levelIn : BoilerState → Bool
  | .empty | .filling | .standing | .draining => true
  | .heating | .ready | .steaming | .refilling | .soaking | .fault => false

/-- States in which the hold thermostat runs (R89). -/
def holdRuns : BoilerState → Bool
  | .ready | .steaming | .refilling => true
  | .empty | .filling | .standing | .heating | .soaking | .draining | .fault => false

/-- States in which the heater may run dry, and fault (R99). -/
def heated : BoilerState → Bool
  | .heating | .ready | .steaming | .refilling | .soaking => true
  | .empty | .filling | .standing | .draining | .fault => false

/-- Form the BOILER demand and, outside SERVICE, write it into the load record (R91, R18). -/
def formDemand (s : State) : State :=
  let d := boilerDemand s
  let s := { s with sgc := { s.sgc with demand := d } }
  if ovenMode s = .service then s else setDemand d .boiler s

/-- Set the two pumps (Table 5.2). -/
def setPumps (b : BoilerState) (s : State) : State :=
  setAux { s.ldt.aux with feedPump := b == .filling || b == .refilling, drainPump := b == .draining } s

/-- The mask reasons of a boiler state (Table 5.2, R82). -/
def setBoilerReasons (b : BoilerState) (s : State) : State :=
  putReason (b == .fault) .dryfire .boiler (putReason (levelIn b) .level .boiler s)

/-- Enter a boiler state: its pumps, its mask reasons, its timer or count, and the report of the change (R81, R82,
R85, R88, R89, R92, R97, R101). The thermostat stops outside the states it runs in; READY keeps it only when it comes
from STEAMING or REFILLING. -/
def enterBoiler (b : BoilerState) (s : State) : State :=
  let keepHold := holdRuns s.sgc.state && holdRuns b
  let s := { s with sgc := { s.sgc with
      state := b
      prior := if b = .refilling then s.sgc.prior else .none
      thermostat := s.sgc.thermostat && keepHold
      fillTimer := if b = .filling ∨ b = .refilling then 0 else s.sgc.fillTimer
      heatCount := if b = .heating then 0 else s.sgc.heatCount
      drainCount := if b = .draining ∧ s.msu.low.reported = .dry then some 0 else .none } }
  formDemand (judgeDegraded (setBoilerReasons b (setPumps b s)))

/-- Change the purpose and let the scale account re-evaluate SCALE (R109). -/
def setPurpose (p : Purpose) (s : State) : State :=
  evalScaleMask { s with sgc := { s.sgc with purpose := p } }

/-- Enter SOAKING: the request is served and the soak thermostat takes its first output (R95). -/
def enterSoaking (target : Int) (s : State) : State :=
  let s := enterBoiler .soaking { s with sgc := { s.sgc with served := true } }
  let cool := match s.msu.boiler.filtered with
    | some t => decide (t < target)
    | .none => false
  formDemand { s with sgc := { s.sgc with thermostat := cool } }

/-- Judge STANDING (R88, R95). A boiler whose temperature channel is faulted or unsettled stays (log 19). -/
def judgeStanding (s : State) : State :=
  if boilerTempOk s then
    match s.sgc.request with
    | .none =>
      if cookingWant s && !steamBlocked s then
        if s.sgc.content = .water then enterBoiler .heating (setPurpose .cook s)
        else if s.sgc.content = .none then s
        else enterBoiler .draining s
      else s
    | .soak t => if s.sgc.served then s else enterSoaking t s
    | .fill _ | .drain => s
  else s

/-- A fill ends in STANDING, which is judged at once (R86). -/
def endFill (s : State) : State :=
  let isFill := match s.sgc.request with
    | .fill _ => true
    | .none | .soak _ | .drain => false
  let s := if isFill then { s with sgc := { s.sgc with served := true } } else s
  judgeStanding (enterBoiler .standing s)

/-- Begin a fill from EMPTY (R81, R85): the content record is written, FILLING entered, the fill start reported; a
HIGH electrode already reported WET ends it at once (R86). -/
def beginFill (c : FillContent) (p : Purpose) (s : State) : State :=
  let s := { s with sgc := { s.sgc with
      content := match c with
        | .water => .water
        | .descaler => .descaler
      soakedS := if c = .descaler ∨ p = .rinse then some 0 else .none } }
  let s := takeFillStart c (enterBoiler .filling (setPurpose p s))
  if s.msu.high.reported = .wet then endFill s else s

/-- Judge EMPTY (R85): an unserved FILL, or the cooking want with the request NONE, begins a fill while `tank_empty`
is clear. -/
def judgeEmpty (s : State) : State :=
  if s.sgc.tankEmpty then s
  else match s.sgc.request with
    | .fill .descaler => if s.sgc.served then s else beginFill .descaler .descale s
    | .fill .water => if s.sgc.served then s else beginFill .water .rinse s
    | .none => if cookingWant s && !steamBlocked s then beginFill .water .cook s else s
    | .soak _ | .drain => s

/-- The steaming conditions of R90. -/
def maySteam (s : State) : Bool :=
  decide (0 < steamDemand s) && s.sgc.content == .water && !steamBlocked s

/-- Judge READY and STEAMING (R90, R95). -/
def judgeHot (s : State) : State :=
  match s.sgc.request with
  | .none =>
    if !cookingWant s then enterBoiler .standing s
    else if s.sgc.state = .ready ∧ maySteam s then enterBoiler .steaming s
    else if s.sgc.state = .steaming ∧ !maySteam s then enterBoiler .ready s
    else s
  | .soak t => if s.sgc.served then s else enterSoaking t s
  | .fill _ | .drain => s

/-- Judge HEATING (R88). -/
def judgeHeating (s : State) : State :=
  match s.sgc.request with
  | .none => if cookingWant s then s else enterBoiler .standing s
  | .soak t => if s.sgc.served then s else enterSoaking t s
  | .fill _ | .drain => s

/-- The prior state follows the steaming conditions during a refill (R93). -/
def judgeRefilling (s : State) : State :=
  { s with sgc := { s.sgc with prior := some (if maySteam s then .steaming else .ready) } }

/-- Judge the present state on a change of W, of the block, of D, of `tank_empty` or of the temperature channel, and
form the demand (R84, R91). -/
def judgeBoiler (s : State) : State :=
  let s := match s.sgc.state with
    | .empty => judgeEmpty s
    | .standing => judgeStanding s
    | .heating => judgeHeating s
    | .ready | .steaming => judgeHot s
    | .refilling => judgeRefilling s
    | .filling | .soaking | .draining | .fault => s
  formDemand s

/-- Mark a DRAIN request served (R83, R97). -/
def serveDrain (s : State) : State :=
  if s.sgc.request = .drain then { s with sgc := { s.sgc with served := true } } else s

/-- Take a new step request (R83): the old one is replaced and its served mark cleared, and the present state takes
it (R85, R86, R88, R90, R93, R95 to R97, R99). A SOAK that finds SOAKING is served by it (log 17). -/
def takeRequest (r : StepRequest) (s : State) : State :=
  let s := { s with sgc := { s.sgc with request := r, served := false } }
  match r, s.sgc.state with
  | .drain, .empty => judgeBoiler (serveDrain s)
  | .drain, .filling | .drain, .standing | .drain, .heating | .drain, .ready | .drain, .steaming
  | .drain, .refilling | .drain, .soaking => enterBoiler .draining s
  | .drain, .draining | .drain, .fault => s
  | .fill _, .filling | .fill _, .standing | .fill _, .heating | .fill _, .ready | .fill _, .steaming
  | .fill _, .refilling | .fill _, .soaking => enterBoiler .draining s
  | .fill _, .empty | .fill _, .draining | .fill _, .fault => judgeBoiler s
  | .soak t, .soaking => enterSoaking t s
  | .soak _, .empty | .soak _, .filling | .soak _, .standing | .soak _, .heating | .soak _, .ready
  | .soak _, .steaming | .soak _, .refilling | .soak _, .draining | .soak _, .fault => judgeBoiler s
  | .none, .soaking => judgeBoiler (enterBoiler .standing s)
  | .none, .empty | .none, .filling | .none, .standing | .none, .heating | .none, .ready | .none, .steaming
  | .none, .refilling | .none, .draining | .none, .fault => judgeBoiler s

/-- Clear `tank_empty`, which is the retry of a fill (R81, R87). -/
def clearTank (s : State) : State := judgeBoiler { s with sgc := { s.sgc with tankEmpty := false } }

/-- The look-ahead as the running program's list stands (R84). -/
def lookAheadNow (s : State) : Bool :=
  let steamAt (slot pos : Nat) : Bool := ((stepAt s slot pos).map (isSteamStep s)).getD false
  if hasCurrent s then
    match s.run.slot, s.run.position with
    | some slot, some pos => steamAt slot pos || steamAt slot (pos + 1)
    | _, _ => false
  else false

/-- Evaluate the look-ahead and judge the change of W (R84). -/
def evalLookAhead (s : State) : State := judgeBoiler { s with sgc := { s.sgc with lookAhead := lookAheadNow s } }

/-- A refill ends and the prior state is judged at once (R93). -/
def endRefill (s : State) : State :=
  let back := match s.sgc.prior with
    | some .steaming => BoilerState.steaming
    | some .ready | .none => .ready
  judgeBoiler (enterBoiler back s)

/-- Set `tank_empty` and raise TANK_EMPTY (R87, R94). -/
def markTankEmpty (s : State) : State :=
  raise .tankEmpty { s with sgc := { s.sgc with tankEmpty := true } }

/-- Empty the content record (R81). -/
def clearContent (s : State) : State :=
  setPurpose .idle { s with sgc := { s.sgc with content := .none, soakedS := .none } }

/-- A fill times out (R87). -/
def fillTimesOut (s : State) : State :=
  let unserve (s : State) : State :=
    match s.sgc.request with
    | .fill _ => { s with sgc := { s.sgc with served := false } }
    | .none | .soak _ | .drain => s
  let s := unserve (markTankEmpty s)
  if s.msu.low.reported = .dry then enterBoiler .empty (clearContent s) else enterBoiler .draining s

/-- A refill times out (R94). -/
def refillTimesOut (s : State) : State := enterBoiler .draining (markTankEmpty s)

/-- A drain completes (R97): the pump stops with the state, the completion is reported on the content as it stood,
the content is emptied, a DRAIN request is served, and EMPTY is judged. -/
def drainCompletes (s : State) : State :=
  let s := setAux { s.ldt.aux with drainPump := false } s
  let s := takeDrain s
  let s := enterBoiler .empty (clearContent s)
  judgeBoiler (serveDrain s)

/-- The boiler enters FAULT (R99). -/
def boilerFaults (s : State) : State := raise .boilerFault (enterBoiler .fault s)

/-- A LOW falling edge (R92, R97): an evaporation in READY or STEAMING, the start of the count in DRAINING. -/
def lowFallsDry (s : State) : State :=
  let evaporate (p : Prior) : State :=
    let s := enterBoiler .refilling { s with sgc := { s.sgc with prior := some p } }
    judgeBoiler (takeDeposit s)
  match s.sgc.state with
  | .ready => evaporate .ready
  | .steaming => evaporate .steaming
  | .draining => { s with sgc := { s.sgc with drainCount := some (s.sgc.drainCount.getD 0) } }
  | .empty | .filling | .standing | .heating | .refilling | .soaking | .fault => s

/-- Water in a boiler held to be empty, or found wet at start-up: DRAINING with UNKNOWN content (R98, R103). -/
def drainUnknown (s : State) : State :=
  enterBoiler .draining
    (setPurpose .idle { s with sgc := { s.sgc with content := .unknown, soakedS := .none } })

/-- A LOW rising edge (R98). -/
def lowRisesWet (s : State) : State := if s.sgc.state = .empty then drainUnknown s else s

/-- A HIGH rising edge (R86, R93, R98). -/
def highRisesWet (s : State) : State :=
  match s.sgc.state with
  | .filling => endFill s
  | .refilling => endRefill s
  | .empty | .standing | .heating | .ready | .steaming | .soaking | .draining | .fault => s

/-- The hold thermostat at a boiler sample (R89). -/
def holdOutput (t : Int) (on : Bool) : Bool :=
  if t < Config.holdLow then true else if Config.boilT ≤ t then false else on

/-- The soak thermostat at a boiler sample (R95). -/
def soakOutput (target t : Int) (on : Bool) : Bool :=
  if t < target - 20 then true else if target ≤ t then false else on

/-- The target of a SOAK request. -/
def soakTarget (s : State) : Option Int :=
  match s.sgc.request with
  | .soak t => some t
  | .none | .fill _ | .drain => .none

/-- A boiler sample event with its filtered value (R88, R89, R95, R99). -/
def boilerSample (t : Int) (s : State) : State :=
  if heated s.sgc.state && decide (Config.dryFire < t) then boilerFaults s
  else match s.sgc.state with
    | .heating => if Config.boilT ≤ t then judgeBoiler (enterBoiler .ready s) else s
    | .ready | .steaming | .refilling =>
      formDemand { s with sgc := { s.sgc with thermostat := holdOutput t s.sgc.thermostat } }
    | .soaking =>
      match soakTarget s with
      | some target => formDemand { s with sgc := { s.sgc with thermostat := soakOutput target t s.sgc.thermostat } }
      | .none => s
    | .standing => judgeBoiler s
    | .empty | .filling | .draining | .fault => s

/-- The boiler temperature channel's fault sets (R99). -/
def boilerChannelFaults (s : State) : State := if heated s.sgc.state then boilerFaults s else s

/-- The boiler temperature channel's fault clears (R13): STANDING is judged at this change of the channel (R88, R95), before
the sample event that follows it. -/
def boilerChannelClears (s : State) : State := if s.sgc.state = .standing then judgeBoiler s else s

/-- CLEAR_FAULT for the boiler, accepted (R100). -/
def clearBoilerFault (s : State) : State := enterBoiler .draining s

/-- Whether the soak count advances at a tick (R96). -/
def soakCounts (s : State) : Bool :=
  s.sgc.state == .soaking && s.sgc.soakedS.isSome && s.run.pause.isEmpty
    && (match soakTarget s, s.msu.boiler.filtered with
        | some target, some t => decide (target - 20 ≤ t)
        | _, _ => false)

/-- INIT at the steam generator (R104), taking the decision from LOW's reported level. -/
def initBoiler (s : State) : State :=
  let s := { s with sgc := { Sgc.reset with state := s.sgc.state } }
  let s := if s.msu.low.reported = .wet then { s with sgc := { s.sgc with content := .unknown } } else s
  let s := evalScaleMask s
  enterBoiler (if s.msu.low.reported = .wet then .draining else .empty) s

end Sys2Proof.Machine
end

