-- ==== Sys2Proof/Machine/Climate.lean ====
section
/-!
DEFINITION. The climate controller (04): the loop update, the climate hand-overs of the run engine, setpoint changes,
and the moisture fault.
-/

namespace Sys2Proof.Machine

/-- Whether a climate needs steam, as the controller tells the steam generator (R72). -/
def climateNeedsSteam (c : Climate) : Bool := c.kind == .step && c.entry.needsSteam

/-- Hand the boiler share, the humidity quanta and the need for steam to the steam generator, which judges them
(R72, R73, R84). -/
def handToBoiler (share humQuanta : Nat) (s : State) : State :=
  judgeBoiler { s with sgc := { s.sgc with
    share := share, humQuanta := humQuanta, needsSteam := climateNeedsSteam s.clc.climate } }

/-- Write the element demands into the load table, outside SERVICE (R18, R72). -/
def writeDemands (d : PerElement) (s : State) : State :=
  if ovenMode s = .service then s
  else setDemand d.grill .grill (setDemand d.ring .ring (setDemand d.bottom .bottom (setDemand d.top .top s)))

/-- The element demands of a heat demand under an entry's weights (R72). -/
def splitHeat (h : Nat) (e : ModeEntry) : PerElement where
  top := quantaOf h e.top
  bottom := quantaOf h e.bottom
  ring := quantaOf h e.ring
  grill := quantaOf h e.grill

/-- Store H and I16 and write the demands of `h`; the boiler share is answered beside the state (R72). -/
def applyHeat (h i16 : Nat) (s : State) : State × Nat :=
  let e := s.clc.climate.entry
  let d := splitHeat h e
  (writeDemands d { s with clc := { s.clc with heat := h, integral := i16, demands := d } }, quantaOf h e.boiler)

/-- The temperature loop of one update, with the boiler share it gives (R67 step 1 and 2, R68, R69, R71). -/
def heatUpdate (s : State) : State × Nat :=
  let c := s.clc.climate
  match c.tempUse, c.setpoint with
  | true, some setpoint =>
    if s.msu.cavity.fault then applyHeat 0 s.clc.integral s
    else match s.msu.cavity.filtered with
      | .none => (s, s.sgc.share)
      | some t =>
        let e := loopError setpoint t
        let iNext := integralNext s.clc.loop.ki e s.clc.integral
        let raw := heatRaw s.clc.loop.kp e iNext
        applyHeat (heatOf raw) (integralAfter (!s.run.pause.isEmpty) raw e iNext s.clc.integral) s
  | _, _ => applyHeat 0 0 s

/-- G of one update (R73, R74, R14). -/
def humidUpdate (s : State) : Nat :=
  let c := s.clc.climate
  match c.humUse, c.humSet with
  | true, some humSet =>
    if s.msu.moisture.fault then 500
    else match s.msu.moisture.filtered with
      | .none => s.clc.humid
      | some h => humidDemand s.clc.loop.ks humSet h
  | _, _ => 0

/-- VENT by the cases of R75. -/
def ventValue (s : State) : Bool :=
  let c := s.clc.climate
  if c.kind = .none then false
  else if c.vent = .opened then true
  else match c.humUse, c.humSet with
    | true, some humSet =>
      if s.msu.moisture.fault then s.ldt.aux.vent
      else match s.msu.moisture.filtered with
        | .none => s.ldt.aux.vent
        | some h =>
          if humSet + s.clc.loop.band < h then true
          else if h ≤ humSet then false
          else s.ldt.aux.vent
    | _, _ => decide (c.entry.boiler = 0)

/-- Set VENT (R75). -/
def evalVent (s : State) : State := setAux { s.ldt.aux with vent := ventValue s } s

/-- A loop update (R67). -/
def loopUpdate (s : State) : State :=
  let h := heatUpdate s
  let g := humidUpdate h.1
  let s := { h.1 with clc := { h.1.clc with humid := g } }
  handToBoiler h.2 (humQuantaOf g) (evalVent s)

/-- Restart the loop timer with the period as it stands, or stop it when no climate stands (R64, R67). -/
def restartLoopTimer (s : State) : State :=
  { s with clc := { s.clc with
    loopTimer := if s.clc.climate.kind = .none then .none else some s.clc.loop.period } }

/-- Whether a hand-over keeps I16 (R70). -/
def keepsIntegral (old new : Climate) : Bool :=
  old.kind != .none && new.kind != .none && old.mode == new.mode

/-- The vent at a hand-over: a climate handed over while the moisture fault stands, with the vent AUTO under the
humidity loop, starts with it CLOSED (R75). -/
def ventAtHandOver (c : Climate) (s : State) : State :=
  if c.kind ≠ .none ∧ c.vent = .auto ∧ c.humUse ∧ s.msu.moisture.fault then
    setAux { s.ldt.aux with vent := false } s
  else s

/-- A climate hand-over (R64): the integral rule, a loop update at once, the loop timer, the need for steam and the
fan. -/
def handOver (c : Climate) (s : State) : State :=
  let i16 := if keepsIntegral s.clc.climate c then s.clc.integral else 0
  let s := { s with clc := { s.clc with climate := c, integral := i16 } }
  evalFan (restartLoopTimer (loopUpdate (ventAtHandOver c s)))

/-- The climate of a step hand-over (R64). -/
def stepClimate (s : State) (mode : Fin 8) (temp humidity : Option Int) (vent : VentSetting) : Climate :=
  let e := s.clc.table[mode]
  { kind := .step, mode := mode.val, entry := e, setpoint := temp, humSet := humidity, vent := vent
    tempUse := e.tempLoop && temp.isSome, humUse := e.humLoop && humidity.isSome }

/-- The keep-warm climate (R65). -/
def holdClimate (s : State) (keepWarm : Nat) : Climate where
  kind := .hold
  mode := 1
  entry := { s.clc.table[1] with boiler := 0, fan := .low, tempLoop := true, humLoop := false }
  setpoint := some keepWarm
  humSet := .none
  vent := .auto
  tempUse := true
  humUse := false

/-- A change of S (R66); ignored when no climate stands. -/
def changeSetpoint (t : Int) (s : State) : State :=
  if s.clc.climate.kind = .none then s
  else { s with clc := { s.clc with climate := { s.clc.climate with setpoint := some t } } }

/-- A change of h_set (R66); ignored when no climate stands. -/
def changeHumSet (h : Int) (s : State) : State :=
  if s.clc.climate.kind = .none then s
  else { s with clc := { s.clc with climate := { s.clc.climate with humSet := some h } } }

/-- The moisture channel's fault sets: under the humidity loop G is 500 at once and its quanta are handed on (R74). -/
def moistureFaults (s : State) : State :=
  if s.clc.climate.humUse then
    handToBoiler s.sgc.share (humQuantaOf 500) { s with clc := { s.clc with humid := 500 } }
  else s

end Sys2Proof.Machine
end

