-- ==== Sys2Proof/Machine/Arbiter.lean ====
section
/-!
DEFINITION. The power arbiter (03) with the load table's measurements (02, 2.5 and 2.6): the frame build, the opening
and the end of slots, verification, overload, and the zero-cross that drives them.
-/

namespace Sys2Proof.Machine

/-! ## The build (R51 to R55) -/

/-- The priority order of a build: the class lists in class order (R51). -/
def priorityOrder (p : PerClass (List LoadId)) : List LoadId := p.c0 ++ p.c1 ++ p.c2 ++ p.c3

/-- A load is eligible when its mask is empty and its demand is above 0 (R51). -/
def eligible (s : State) (l : LoadId) : Bool := (load s l).mask.isEmpty && decide (0 < (load s l).demand)

/-- The slot with a number; a number outside the schedule names an empty slot. -/
def slotOf (g : List Slot) (n : Nat) : Slot := g.getD n .empty

/-- The solo reservation of a leg in a slot. -/
def soloOn (t : Slot) : Leg → Option LoadId
  | .a => t.soloA
  | .b => t.soloB

/-- Whether a load is placed in a slot and charged to a leg. -/
def placedOn (f : InForce) (t : Slot) (g : Leg) (l : LoadId) : Bool := t.placed.get l && f.leg.get l == g

/-- A leg's sum of charges in a slot. -/
def legSum (f : InForce) (t : Slot) (g : Leg) : Nat :=
  (allLoads.map fun l => if placedOn f t g l then f.charge.get l else 0).sum

/-- Whether no load is placed in a slot on a leg (R52). -/
def legFree (f : InForce) (t : Slot) (g : Leg) : Bool := allLoads.all fun l => !placedOn f t g l

/-- Place a load in a slot. -/
def placeIn (l : LoadId) (t : Slot) : Slot := { t with placed := t.placed.set l true }

/-- Reserve a slot for a load on a leg (R52). -/
def reserveIn (l : LoadId) (g : Leg) (t : Slot) : Slot :=
  match g with
  | .a => { placeIn l t with soloA := some l }
  | .b => { placeIn l t with soloB := some l }

/-- Change the slot with a number. -/
def updSlot (f : Slot → Slot) (n : Nat) (g : List Slot) : List Slot := g.set n (f (slotOf g n))

/-- Reserve the load's solo slot: the first slot of the placement order with its leg free, if its charge fits the
leg's capacity (R52). -/
def reserveSolo (f : InForce) (placement : List Nat) (l : LoadId) (g : List Slot) : List Slot :=
  let leg := f.leg.get l
  if f.cap leg < f.charge.get l then g
  else match placement.find? (fun n => legFree f (slotOf g n) leg) with
    | some n => updSlot (reserveIn l leg) n g
    | .none => g

/-- The verification pass (R52) over the loads given, in order. -/
def verificationPass (f : InForce) (placement : List Nat) : List LoadId → List Slot → List Slot
  | [], g => g
  | l :: ls, g => verificationPass f placement ls (reserveSolo f placement l g)

/-- The quanta a load holds in a schedule (R54). -/
def quantaIn (g : List Slot) (l : LoadId) : Nat := (g.filter fun t => t.placed.get l).length

/-- Whether a load may take a slot (R53): not yet placed in it, no solo reservation on its leg, and its charge fits. -/
def mayTake (f : InForce) (l : LoadId) (t : Slot) : Bool :=
  let leg := f.leg.get l
  !t.placed.get l && (soloOn t leg).isNone && decide (legSum f t leg + f.charge.get l ≤ f.cap leg)

/-- One load's walk of the placement order (R53), stopping when its placed quanta reach its demand. -/
def walk (f : InForce) (l : LoadId) (demand : Nat) : List Nat → List Slot → List Slot
  | [], g => g
  | n :: ns, g =>
    if demand ≤ quantaIn g l then g
    else walk f l demand ns (if mayTake f l (slotOf g n) then updSlot (placeIn l) n g else g)

/-- The normal pass (R53) over the loads given with their demands, in order. -/
def normalPass (f : InForce) (placement : List Nat) : List (LoadId × Nat) → List Slot → List Slot
  | [], g => g
  | (l, d) :: ls, g => normalPass f placement ls (walk f l d placement g)

/-- The schedule a build gives (R51 to R53). -/
def schedule (s : State) : List Slot :=
  let f := valuesNow s
  let order := (priorityOrder s.par.lists).filter (eligible s)
  let due := order.filter fun l => (load s l).verifyDue
  normalPass f s.par.placement (order.map fun l => (l, (load s l).demand))
    (verificationPass f s.par.placement due emptyGrid)

/-- Write a load's frame fields (R54). An ineligible load is in no slot of the schedule. -/
def writeServed (g : List Slot) (s : State) (l : LoadId) : State :=
  let n := quantaIn g l
  updLoad (fun d => { d with served := n, shortfall := d.demand - n }) l s

/-- The build (R51 to R54): the values in force, the schedule, the frame fields, an empty withdrawn set; leg B is no
longer measured past it in a SINGLE connection (R11). -/
def build (s : State) : State :=
  let g := schedule s
  let s := { s with
    par := { s.par with frame := { s.par.frame with
      grid := g, inForce := valuesNow s, withdrawn := .of fun _ => false } }
    msu := { s.msu with legBTail := false } }
  allLoads.foldl (writeServed g) s

/-- Move a load to the tail of a list. -/
def toTail (l : LoadId) (ls : List LoadId) : List LoadId := ls.filter (fun x => x ≠ l) ++ [l]

/-- The rotation of one class (R55). -/
def rotateList (s : State) (p : Policy) (ls : List LoadId) : List LoadId :=
  match p with
  | .fixed => ls
  | .rotating =>
    match ls.find? (fun l => decide (0 < (load s l).served)) with
    | some l => toTail l ls
    | .none => ls

/-- The rotation after a build (R55). -/
def rotateClasses (s : State) : State :=
  let p := s.par.policies
  let ls := s.par.lists
  { s with par := { s.par with lists :=
    { c0 := rotateList s p.c0 ls.c0, c1 := rotateList s p.c1 ls.c1
      c2 := rotateList s p.c2 ls.c2, c3 := rotateList s p.c3 ls.c3 } } }

/-! ## Slots (R25, R43, R44) -/

/-- Whether a load may be on: its mask empty and not withdrawn (R19, R57). -/
def mayFire (s : State) (l : LoadId) : Bool := (load s l).mask.isEmpty && !s.par.frame.withdrawn.get l

/-- Whether a slot is a load's solo slot. -/
def isSolo (t : Slot) (l : LoadId) : Bool := t.soloA == some l || t.soloB == some l

/-- The switching of one load at the opening of a slot (R43, R44). -/
def switchAtOpen (t : Slot) (s : State) (l : LoadId) : State :=
  updLoad (fun d => { d with on := t.placed.get l && !isSolo t l && mayFire s l }) l s

/-- A fresh measurement (R25). -/
def newMeasurement (l : LoadId) : Measurement :=
  { load := l, count := 0, offSum := 0, onSum := 0, voltSum := 0, void := false }

/-- The measurement that a solo slot opens for its load (R25). A mask reason added earlier in the frame, which keeps the
load from switching on at half-cycle 5, voids it at its opening (R27, R57; log 31). -/
def openMeasurement (s : State) (l : LoadId) : Measurement := { newMeasurement l with void := !mayFire s l }

/-- Open a slot: its first half-cycle, the measurements of its solo loads (R25), and the switching (R43, R44). -/
def openSlot (n : Nat) (s : State) : State :=
  let t := slotOf s.par.frame.grid n
  let s := { s with
    par := { s.par with frame := { s.par.frame with slot := n, half := 1 } }
    ldt := { s.ldt with measA := t.soloA.map (openMeasurement s), measB := t.soloB.map (openMeasurement s) } }
  allLoads.foldl (switchAtOpen t) s

/-- Switch a solo load on at the end of half-cycle 4, if it may fire (R44). -/
def fireSolo (s : State) : Option LoadId → State
  | .none => s
  | some l => if mayFire s l then updLoad (fun d => { d with on := true }) l s else s

/-- The end of the baseline window of a solo slot (R26, R44). -/
def endBaseline (s : State) : State :=
  let t := slotOf s.par.frame.grid s.par.frame.slot
  let s := fireSolo s t.soloA
  fireSolo s t.soloB

/-! ## Verification and overload (R26 to R29, R32, R33) -/

/-- Take one half-cycle record into a measurement (R26, R27): half-cycles 1 to 4 form the baseline window. -/
def takeRecord (half volts : Nat) (amps : Option Nat) (faulted : Bool) (m : Measurement) : Measurement :=
  let i := amps.getD 0
  let base := decide (half ≤ 4)
  { m with
    count := m.count + 1
    offSum := if base then m.offSum + i else m.offSum
    onSum := if base then m.onSum else m.onSum + i
    voltSum := if base then m.voltSum else m.voltSum + volts
    void := m.void || faulted || amps.isNone }

/-- Hand a closed half-cycle's record to the open measurements (R10, R26). -/
def takeHalfCycle (r : HalfCycle) (s : State) : State :=
  let h := s.par.frame.half
  let vf := s.msu.voltage.fault
  { s with ldt := { s.ldt with
    measA := s.ldt.measA.map (takeRecord h r.volts (some r.ampsA) (vf || s.msu.ampsA.fault))
    measB := s.ldt.measB.map (takeRecord h r.volts r.ampsB (vf || s.msu.ampsB.fault)) } }

/-- Judge a measurement that stands (R28, R29): every half-cycle of the slot counted, and not voided (R27). -/
def judgeLoad (m : Option Measurement) (s : State) : State :=
  match m with
  | .none => s
  | some m =>
    let hc := s.par.frame.inForce.slotHc
    if m.void ∨ m.count ≠ hc then s
    else
      let w := measuredPower hc m
      let band := healthBand (w * 100 / (load s m.load).ratedW)
      let s := updLoad (fun d => { d with measuredW := some w, health := band, verifyDue := false }) m.load s
      match band with
      | .opened | .high => raise .loadFault (addReason .health m.load s)
      | .weak => raise .loadFault s
      | .good | .untested => s

/-- Close and judge the measurements at the end of a slot (R25, R28, R29). -/
def closeMeasurements (s : State) : State :=
  let a := s.ldt.measA
  let b := s.ldt.measB
  judgeLoad b (judgeLoad a { s with ldt := { s.ldt with measA := .none, measB := .none } })

/-- Whether a leg's measured power exceeds 110 % of its budget in force (R32). -/
def overloaded (f : InForce) (g : Leg) (volts amps : Nat) : Bool :=
  decide (f.budget g * 110 / 100 < wattsOf volts amps)

/-- The two marks of an overload on one load (R33, R58). -/
def markOverload (s : State) (l : LoadId) : State := addReason .overload l (setVerify l s)

/-- The loads charged to a leg by the values in force (R58). -/
def loadsOn (f : InForce) (g : Leg) : List LoadId := allLoads.filter fun l => f.leg.get l == g

/-- A leg found overloaded (R33, R58). -/
def overloadLeg (g : Leg) (s : State) : State :=
  raise .overload ((loadsOn s.par.frame.inForce g).foldl markOverload s)

/-- Check one leg at a slot end (R32). -/
def checkLeg (g : Leg) (volts : Nat) (amps : Option Nat) (faulted : Bool) (s : State) : State :=
  match amps with
  | .none => s
  | some i => if !faulted && overloaded s.par.frame.inForce g volts i then overloadLeg g s else s

/-- The overload check of a slot end, on the record its zero-cross closes (R32). -/
def checkOverload (r : Option HalfCycle) (s : State) : State :=
  match r with
  | .none => s
  | some r =>
    let vf := s.msu.voltage.fault
    let s := checkLeg .a r.volts (some r.ampsA) (vf || s.msu.ampsA.fault) s
    match s.par.frame.inForce.connection with
    | .single => s
    | .dual => checkLeg .b r.volts r.ampsB (vf || s.msu.ampsB.fault) s

/-! ## Test patterns at the arbiter's boundary (R191, R192) -/

/-- The group a load belongs to under ALTERNATE (R191). -/
def groupOf : LoadId → Group
  | .top | .ring | .boiler => .even
  | .bottom | .grill => .odd

/-- A load of the step: fired (R191). -/
def patternFires (l : LoadId) (s : State) : State := setDemand 16 l (removeReason .forceOff l s)

/-- A load outside the step: held off (R191). -/
def patternHolds (l : LoadId) (s : State) : State := setDemand 0 l (addReason .forceOff l s)

/-- Write the state of a pattern to the loads (R191). -/
def writePattern (p : Pattern) (s : State) : State :=
  let s := { s with svc := { s.svc with pattern := p } }
  match p with
  | .none => allLoads.foldl (fun s l => setDemand 0 l (removeReason .forceOff l s)) s
  | .allOff => allLoads.foldl (fun s l => patternHolds l s) s
  | .walk w => allLoads.foldl (fun s l => if l = w then setVerify l (patternFires l s) else patternHolds l s) s
  | .alternate g => allLoads.foldl (fun s l => if groupOf l = g then patternFires l s else patternHolds l s) s

/-- The next load index, wrapping from 4 to 0 (R192). -/
def nextLoad : LoadId → LoadId
  | .top => .bottom
  | .bottom => .ring
  | .ring => .grill
  | .grill => .boiler
  | .boiler => .top

/-- A running WALK or ALTERNATE advances at the end of slot 15 (R192). -/
def advancePattern (s : State) : State :=
  match s.svc.pattern with
  | .none | .allOff => s
  | .walk l => writePattern (.walk (nextLoad l)) s
  | .alternate .even => writePattern (.alternate .odd) s
  | .alternate .odd => writePattern (.alternate .even) s

/-! ## The zero-cross (R10, R41, R42, R46) -/

/-- Begin a frame: OVERLOAD goes, the build, the rotation, slot 0 (R41 steps 2 to 5). -/
def beginFrame (s : State) : State :=
  let s := rotateClasses (build (removeReasonFrom .overload allLoads s))
  openSlot 0 { s with par := { s.par with frame := { s.par.frame with state := .firing } } }

/-- The end of a slot (R41): judgements, then the overload check; after slot 15 the frame boundary. -/
def endSlot (r : Option HalfCycle) (s : State) : State :=
  let s := checkOverload r (closeMeasurements s)
  if s.par.frame.slot < 15 then openSlot (s.par.frame.slot + 1) s
  else beginFrame (advancePattern s)

/-- Whether the half-cycle in progress is the slot's last. -/
def atSlotEnd (s : State) : Bool := decide (s.par.frame.inForce.slotHc ≤ s.par.frame.half)

/-- A qualified zero-cross at the arbiter (R41, R42, R44, R46). -/
def arbiterCross (r : Option HalfCycle) (s : State) : State :=
  match s.par.frame.state with
  | .waiting => beginFrame s
  | .halted => beginFrame (removeReasonFrom .supply allLoads s)
  | .firing =>
    if atSlotEnd s then endSlot r s
    else
      let half := s.par.frame.half
      let s := if half = 4 then endBaseline s else s
      { s with par := { s.par with frame := { s.par.frame with half := half + 1 } } }

/-- Whether a zero-cross is qualified (R10). -/
def qualified (z : Crossing) (s : State) : Bool := !s.msu.zcSeen || decide (Config.qualifyUs ≤ z.intervalUs)

/-- The record a qualified zero-cross closes (R10): none when no half-cycle is open or the gap exceeds 40 ms. -/
def closedRecord (z : Crossing) (s : State) : Option HalfCycle :=
  if s.msu.halfOpen ∧ z.intervalUs ≤ Config.halfCycleUs then
    some { volts := z.volts, ampsA := z.ampsA, ampsB := if s.msu.legBOpen then some z.ampsB else .none }
  else .none

/-- Keep a closed record and hand it to the load table (R10, R11). -/
def keepRecord (r : Option HalfCycle) (s : State) : State :=
  match r with
  | .none => s
  | some r =>
    takeHalfCycle r { s with msu := { s.msu with
      latest := some r, freshV := true, freshA := true, freshB := r.ampsB.isSome } }

/-- Open the next half-cycle (R10), with leg B measured as R11 says. -/
def openHalfCycle (s : State) : State :=
  { s with msu := { s.msu with
    zcSeen := true, halfOpen := true
    legBOpen := s.par.supply.connection == .dual || s.msu.legBTail } }

/-- A zero-cross (R10): ignored unless qualified. -/
def zeroCross (z : Crossing) (s : State) : State :=
  if qualified z s then
    let r := closedRecord z s
    openHalfCycle (arbiterCross r (keepRecord r s))
  else s

/-- Expiry of the supply timer while the frame is FIRING (R45): the frame halts at its place, every load carries
SUPPLY, and the most recent half-cycle record is discarded (R10). -/
def supplyLost (s : State) : State :=
  match s.par.frame.state with
  | .waiting | .halted => s
  | .firing =>
    let s := addReasonTo .supply allLoads s
    { s with
      par := { s.par with frame := { s.par.frame with state := .halted } }
      msu := { s.msu with latest := .none, halfOpen := false, freshV := false, freshA := false, freshB := false }
      ldt := { s.ldt with measA := voidAny s.ldt.measA, measB := voidAny s.ldt.measB } }

/-- INIT at the arbiter and the load table's frame fields (R37, R61). A HALTED frame stays HALTED at the slot and
half-cycle at which it stopped (R59). -/
def initArbiter (s : State) : State :=
  let s := removeReasonFrom .overload allLoads s
  let s := allLoads.foldl
    (fun s l => updLoad (fun d => { d with served := 0, shortfall := 0, on := false }) l s) s
  { s with
    par := { s.par with frame := { s.par.frame with
      state := if s.par.frame.state = .firing then .waiting else s.par.frame.state
      slot := if s.par.frame.state = .firing then 0 else s.par.frame.slot
      half := if s.par.frame.state = .firing then 0 else s.par.frame.half
      grid := emptyGrid, withdrawn := .of fun _ => false } }
    ldt := { s.ldt with measA := .none, measB := .none } }

end Sys2Proof.Machine
end

