-- ==== Sys2Proof/Machine/Measure.lean ====
section
/-!
DEFINITION. The measurement unit's channels (01): windows, filter, faults, debouncing, and the mains samples.
-/

namespace Sys2Proof.Machine

/-- The seven analog channels (Table 1.2). -/
inductive Channel where
  | cavity | boiler | core | moisture | voltage | ampsA | ampsB
  deriving DecidableEq, Repr

/-- The valid window of a channel, both ends valid (R2, Table 1.2). -/
def window : Channel → Int × Int
  | .cavity => (-200, 4000)
  | .boiler => (-200, 2000)
  | .core => (0, 1200)
  | .moisture => (0, 100)
  | .voltage => (1500, 2800)
  | .ampsA => (0, 40000)
  | .ampsB => (0, 40000)

/-- Whether a raw sample is valid (R2). -/
def validRaw (c : Channel) (raw : Int) : Bool := decide ((window c).1 ≤ raw) && decide (raw ≤ (window c).2)

/-- What a sample reports to the channel's consumers (R13). -/
inductive Report where
  | nothing
  | sample
  | faultSet
  | clearedThenSample
  deriving DecidableEq, Repr

/-- The filter step (R3): a quarter of the difference, truncated toward zero. -/
def filterStep (filtered raw : Int) : Int := filtered + (raw - filtered).tdiv 4

/-- A sample at a channel record, and what it reports (R2 to R5, R13). Of an invalid sample only the count reaches the
record; its raw value does not (log 30). -/
def sampleAnalog (valid : Bool) (raw : Int) (a : Analog) : Analog × Report :=
  if valid then
    let a := { a with raw := raw }
    if a.fault then
      if 3 ≤ a.goodRun + 1 then
        ({ a with fault := false, goodRun := 0, badRun := 0, filtered := some raw }, .clearedThenSample)
      else ({ a with goodRun := a.goodRun + 1, badRun := 0 }, .nothing)
    else
      ({ a with badRun := 0, filtered := some (match a.filtered with
          | .none => raw
          | some f => filterStep f raw) }, .sample)
  else
    let bad := satAdd 3 a.badRun 1
    if a.fault then ({ a with badRun := bad, goodRun := 0 }, .nothing)
    else if 3 ≤ bad then
      ({ a with badRun := bad, goodRun := 0, fault := true, filtered := .none }, .faultSet)
    else ({ a with badRun := bad, goodRun := 0 }, .nothing)

/-- Empty a channel: the core when the probe is removed (R7), leg B when the connection becomes SINGLE (R11). -/
def emptyAnalog (a : Analog) : Analog := { a with filtered := .none, fault := false, badRun := 0, goodRun := 0 }

/-- One debounced sample of a digital channel (R8), and whether the reported state changed. -/
def sampleDigital {α : Type} [DecidableEq α] (read : α) (d : Digital α) : Digital α × Bool :=
  if read = d.reported then ({ d with changeRun := 0 }, false)
  else if 3 ≤ d.changeRun + 1 then ({ reported := read, changeRun := 0 }, true)
  else ({ d with changeRun := d.changeRun + 1 }, false)

/-- A channel's record. -/
def channel (c : Channel) (m : Msu) : Analog :=
  match c with
  | .cavity => m.cavity
  | .boiler => m.boiler
  | .core => m.core
  | .moisture => m.moisture
  | .voltage => m.voltage
  | .ampsA => m.ampsA
  | .ampsB => m.ampsB

/-- Write a channel's record. -/
def putChannel (c : Channel) (a : Analog) (m : Msu) : Msu :=
  match c with
  | .cavity => { m with cavity := a }
  | .boiler => { m with boiler := a }
  | .core => { m with core := a }
  | .moisture => { m with moisture := a }
  | .voltage => { m with voltage := a }
  | .ampsA => { m with ampsA := a }
  | .ampsB => { m with ampsB := a }

/-- The notice of a channel's fault (R6). -/
def faultNotice : Channel → Notice
  | .core => .probeFault
  | .cavity | .boiler | .moisture | .voltage | .ampsA | .ampsB => .sensorFault

/-- A raw sample at a channel of the part, with the notice of a fault that sets (R2 to R6). -/
def sampleChannel (c : Channel) (raw : Int) (s : State) : State × Report :=
  let r := sampleAnalog (validRaw c raw) raw (channel c s.msu)
  let s := { s with msu := putChannel c r.1 s.msu }
  (if r.2 = .faultSet then raise (faultNotice c) s else s, r.2)

/-- The value a mains channel takes from a half-cycle record completed since its last sample (R11). -/
def mainsRaw (i : MainsInput) (s : State) : Option Nat :=
  match s.msu.latest with
  | .none => .none
  | some r =>
    match i with
    | .voltage => if s.msu.freshV then some r.volts else .none
    | .legA => if s.msu.freshA then some r.ampsA else .none
    | .legB => if s.msu.freshB ∧ s.par.supply.connection = .dual then r.ampsB else .none

/-- The channel of a mains input. -/
def mainsChannel : MainsInput → Channel
  | .voltage => .voltage
  | .legA => .ampsA
  | .legB => .ampsB

/-- The channel's sample has been taken (R11). -/
def clearFresh (i : MainsInput) (s : State) : State :=
  match i with
  | .voltage => { s with msu := { s.msu with freshV := false } }
  | .legA => { s with msu := { s.msu with freshA := false } }
  | .legB => { s with msu := { s.msu with freshB := false } }

/-- A mains sample (R11): skipped when no half-cycle has completed since the last one, or when leg B is not in
use. -/
def mainsSample (i : MainsInput) (s : State) : State :=
  match mainsRaw i s with
  | .none => clearFresh i s
  | some v => (sampleChannel (mainsChannel i) v (clearFresh i s)).1

/-- The measurement unit on a change of the connection (R11). -/
def connectionChanged (new : Connection) (s : State) : State :=
  match new with
  | .single => { s with msu := { s.msu with ampsB := emptyAnalog s.msu.ampsB, legBTail := true } }
  | .dual => { s with msu := { s.msu with legBTail := false } }

end Sys2Proof.Machine
end

