-- ==== Sys2Proof/Machine/Run.lean ====
section
/-!
DEFINITION. The run engine (08): the pause set, step start and latching, end conditions, step end, keep-warm, ENDING
and IDLE, and what reports of the other blocks do to a run.
-/

namespace Sys2Proof.Machine

/-! ## The pause set (R153) -/

/-- Whether a run state takes a pause reason (R153). -/
def takesPause (st : RunState) (r : PauseReason) : Bool :=
  match st, r with
  | .active, _ | .awaitConfirm, _ => true
  | .holding, .host | .holding, .door | .holding, .link => true
  | .holding, .tank | .holding, .probe => false
  | .idle, _ | .ending, _ => false

/-- Write the pause set; PAUSE follows it onto or off all five loads when it turns non-empty or empty (R153). -/
def setPause (p : PauseSet) (s : State) : State :=
  let was := s.run.pause.isEmpty
  let s := { s with run := { s.run with pause := p } }
  if was && !p.isEmpty then addReasonTo .pause allLoads s
  else if !was && p.isEmpty then removeReasonFrom .pause allLoads s
  else s

/-- Add a pause reason, if the run state takes it (R153). -/
def addPause (r : PauseReason) (s : State) : State :=
  if takesPause s.run.state r then setPause (s.run.pause.put r true) s else s

/-- Take a pause reason out of the set (R153). -/
def leavePause (r : PauseReason) (s : State) : State :=
  if s.run.pause.has r then setPause (s.run.pause.put r false) s else s

/-- Remove a pause reason outside a step start; the removal of TANK clears `tank_empty` (R81, R154). -/
def dropPause (r : PauseReason) (s : State) : State :=
  if r = .tank ∧ s.run.pause.tank then clearTank (leavePause r s) else leavePause r s

/-- A door opening at the run engine: DOOR_PAUSE is raised when DOOR enters the set (R144, R167). -/
def pauseForDoor (s : State) : State :=
  if takesPause s.run.state .door ∧ !s.run.pause.door then raise .doorPause (addPause .door s) else s

/-- The steam generator reports tank empty (R156). -/
def tankEmptyReport (s : State) : State :=
  if ((currentStep s).map (needsBoiler s)).getD false then addPause .tank s else s

/-! ## Ending a run (R160 to R163) -/

/-- Whether the DRAIN handed at ENDING entry has been served. -/
def drainServed (s : State) : Bool := s.sgc.request == .drain && s.sgc.served

/-- The run enters IDLE at the drain done report (R161). -/
def enterIdle (s : State) : State :=
  let mode := ovenMode s
  let s := { s with run := { s.run with state := .idle, outcome := s.run.endingCause, endingCause := .none } }
  let s := takeRequest .none s
  noteMode mode (raise .programEnded s)

/-- In ENDING the run enters IDLE once its DRAIN is served (R161). -/
def settleEnding (s : State) : State :=
  if s.run.state = .ending ∧ drainServed s then enterIdle s else s

/-- ENDING entry (R161). The items of the rule have no order among them but for what follows from them: TANK's
removal is judged after the DRAIN request, so that no fill begins (log 10). The marks of the last step stand
(log 38). -/
def enterEnding (cause : RunOutcome) (s : State) : State :=
  let hadTank := s.run.pause.tank
  let s := setPause {} s
  let s := { s with run := { s.run with
    state := .ending, endingCause := some cause, awaiting := .none, latched := {} } }
  let s := handOver .absent s
  let s := takeRequest .drain { s with sgc := { s.sgc with lookAhead := false } }
  let s := if hadTank then clearTank s else s
  settleEnding s

/-- HOLDING entry with the program's keep-warm value (R160): the hand-over comes before the removal of TANK and PROBE
(log 37), the look-ahead falls before TANK's removal clears `tank_empty`, so that no fill begins (log 43), and the marks of
the step that has ended stand (log 38). -/
def enterHolding (keepWarm : Nat) (s : State) : State :=
  let s := { s with run := { s.run with state := .holding, holdS := 0, awaiting := .none, latched := {} } }
  let s := handOver (holdClimate s keepWarm) s
  let s := judgeBoiler { s with sgc := { s.sgc with lookAhead := false } }
  dropPause .probe (dropPause .tank s)

/-- The rinse end at the scale account (R113); the change is handed to the steam generator. -/
def rinseEnd (s : State) : State :=
  if s.sca.rinseSoaked then
    judgeBoiler { s with sca := { s.sca with rinseDue := false, rinseSoaked := false } }
  else s

/-- The keep-warm value of the program in the run record. -/
def runKeepWarm (s : State) : Option Nat :=
  (s.run.slot.bind (userProgram s)).bind fun p => p.keepWarm

/-- The last step has ended (R150 step 5). -/
def lastStepEnded (s : State) : State :=
  let s := if runsSystem s then rinseEnd s else s
  match runKeepWarm s with
  | some k => enterHolding k s
  | .none => enterEnding .completed s

/-! ## Step start (R145, R146) -/

/-- Latch a step (R146). -/
def latchStep (st : Option Step) (s : State) : State :=
  match st with
  | some (.climate c) =>
    let v := evalStep s (s.run.slot.getD 0) c
    { s with run := { s.run with latched := v.latched, marks := { s.run.marks with clamped := v.clamped } } }
  | some (.boilerSoak target secs) =>
    { s with run := { s.run with latched := { temp := some target, duration := some secs } } }
  | some (.confirm _) | some (.boilerFill _) | some .boilerDrain | .none =>
    { s with run := { s.run with latched := {} } }

/-- The step request of a step (R83, R145 step 3). -/
def requestOf (st : Option Step) : StepRequest :=
  match st with
  | some (.boilerFill c) => .fill c
  | some (.boilerSoak t _) => .soak t
  | some .boilerDrain => .drain
  | some (.climate _) | some (.confirm _) | .none => .none

/-- Hand the step request; the steam generator then clears `tank_empty` and re-evaluates its look-ahead (R145
step 3). -/
def handRequest (st : Option Step) (s : State) : State :=
  let s := takeRequest (requestOf st) s
  evalLookAhead { s with sgc := { s.sgc with tankEmpty := false } }

/-- The climate hand-over of a CLIMATE step (R145 step 4). -/
def handClimate (st : Option Step) (s : State) : State :=
  match st with
  | some (.climate c) => handOver (stepClimate s c.mode s.run.latched.temp s.run.latched.humidity c.vent) s
  | some (.confirm _) | some (.boilerFill _) | some (.boilerSoak _ _) | some .boilerDrain | .none => s

/-- Whether a step waits for CONFIRM (R145 step 5). -/
def waitsForConfirm : Step → Bool
  | .confirm _ => true
  | .climate c => c.endCond == .confirm
  | .boilerFill _ | .boilerSoak _ _ | .boilerDrain => false

/-- Whether a step is a CORE step. -/
def isCoreStep : Step → Bool
  | .climate c => c.endCond == .core
  | .confirm _ | .boilerFill _ | .boilerSoak _ _ | .boilerDrain => false

/-- The current CORE step loses its probe: without a cap it adds PROBE (R157). -/
def loseProbe (s : State) : State :=
  if ((currentStep s).map isCoreStep).getD false && s.run.latched.duration.isNone then addPause .probe s else s

/-- Whether the probe is lost at a step's own start (R157). -/
def probeLost (s : State) : Bool := s.msu.probe.reported == .absent || s.msu.core.fault

/-- Judge a step for its own start (R145 step 5), but for a boiler step already served. -/
def judgeStart (st : Option Step) (s : State) : State :=
  let s := if (st.map waitsForConfirm).getD false then
      { s with run := { s.run with state := .awaitConfirm, awaiting := some .step } }
    else s
  let s := if probeLost s then loseProbe s else s
  judgeDegraded s

/-- R145, steps 1 to 5, at a position; `tank_empty` is cleared at step 3, after the request (log 25). A boiler step
already served is judged by the caller. -/
def beginStep (pos : Nat) (s : State) : State :=
  let s := { s with run := { s.run with
    state := .active, position := some pos, elapsedS := 0, awaiting := .none, marks := {} } }
  let s := leavePause .probe (leavePause .tank s)
  let st := stepAt s (s.run.slot.getD 0) pos
  judgeStart st (handClimate st (handRequest st (latchStep st s)))

/-- Whether the current step is a BOILER_FILL or BOILER_DRAIN step whose request is served, with the run ACTIVE and
the pause set empty (R149). -/
def boilerStepServed (s : State) : Bool :=
  s.run.state == .active && s.run.pause.isEmpty && s.sgc.served
    && (match currentStep s with
        | some (.boilerFill _) | some .boilerDrain => true
        | _ => false)

/-- Write the last end and raise STEP_ENDED (R150 steps 1 and 2). -/
def recordEnd (cause : EndCause) (s : State) : State :=
  raise .stepEnded { s with run := { s.run with
    lastEnd := some { position := s.run.position.getD 0, cause := cause, marks := s.run.marks } } }

/-- Start the step at a position (R145). A boiler step served within its own start ends at once (R149), and the next
position follows it (R150); `fuel` bounds that chain by the length of the list. -/
def startStep : Nat → Nat → State → State
  | 0, _, s => s
  | fuel + 1, pos, s =>
    let s := beginStep pos s
    if boilerStepServed s then
      let s := recordEnd .condition s
      if pos + 1 < stepCount s (s.run.slot.getD 0) then startStep fuel (pos + 1) s else lastStepEnded s
    else s

/-- Go on from the step that has ended (R150 steps 4 and 5). -/
def proceed (s : State) : State :=
  let next := s.run.position.getD 0 + 1
  let n := stepCount s (s.run.slot.getD 0)
  if next < n then startStep n next s else lastStepEnded s

/-- Whether a step's end waits for the host: on_end PAUSE, unless its end field is CONFIRM (R150 step 3). -/
def pausesAtEnd : Step → Bool
  | .climate c => c.onEnd == .pause && c.endCond != .confirm
  | .confirm _ | .boilerFill _ | .boilerSoak _ _ | .boilerDrain => false

/-- A step end (R150). -/
def endStep (cause : EndCause) (s : State) : State :=
  let st := currentStep s
  let s := recordEnd cause s
  if (st.map pausesAtEnd).getD false then
    raise .awaitConfirm { s with run := { s.run with state := .awaitConfirm, awaiting := some .next } }
  else proceed s

/-! ## End conditions (R147 to R149) -/

/-- Whether end conditions are judged: ACTIVE with an empty pause set. -/
def unpaused (s : State) : Bool := s.run.state == .active && s.run.pause.isEmpty

/-- After an event at the steam generator or the pause set: a served boiler step ends (R149), and a served DRAIN ends
ENDING (R161). -/
def settleRun (s : State) : State :=
  if boilerStepServed s then endStep .condition s else settleEnding s

/-- A cavity sample event at the run engine (R148). -/
def reachedNow (t : Int) (s : State) : Bool :=
  unpaused s
    && (match currentStep s, s.run.latched.temp with
        | some (.climate c), some temp => c.endCond == .reached && decide (temp - 20 ≤ t)
        | _, _ => false)

/-- End a REACHED step at a cavity sample that meets it (R148). -/
def runCavitySample (t : Int) (s : State) : State := if reachedNow t s then endStep .condition s else s

/-- Whether a core sample meets the current CORE step (R148). -/
def coreNow (t : Int) (s : State) : Bool :=
  unpaused s
    && (match currentStep s, s.run.latched.core with
        | some (.climate c), some core => c.endCond == .core && decide (core ≤ t)
        | _, _ => false)

/-- A core sample event at the run engine (R157, R148): PROBE goes first, then the condition is judged. -/
def runCoreSample (t : Int) (s : State) : State :=
  let s := settleRun (dropPause .probe s)
  if coreNow t s then endStep .condition s else s

/-- The end a time-based condition gives at a tick, on the counts as they stand (R147). -/
def timeEnd (s : State) : Option EndCause :=
  match currentStep s, s.run.latched.duration with
  | some (.climate c), some d =>
    if d ≤ s.run.elapsedS then
      match c.endCond with
      | .time => some .condition
      | .core | .reached => some .cap
      | .confirm => .none
    else .none
  | _, _ => .none

/-- The counts of a tick (R147). -/
def tickCounts (s : State) : State :=
  { s with run := { s.run with
    elapsedS := satAdd Config.countMax s.run.elapsedS 1, totalS := satAdd Config.countMax s.run.totalS 1 } }

/-- A step tick (R147, R160). -/
def stepTick (s : State) : State :=
  if unpaused s then
    let s := tickCounts s
    match timeEnd s with
    | some .cap => endStep .cap { s with run := { s.run with marks := { s.run.marks with timedOut := true } } }
    | some c => endStep c s
    | .none => s
  else if s.run.state = .holding then
    let s := { s with run := { s.run with holdS := satAdd Config.holdSeconds s.run.holdS 1 } }
    if Config.holdSeconds ≤ s.run.holdS then enterEnding .completed s else s
  else s

/-- The `soaked_s` report at the run engine (R149). -/
def soakReport (n : Nat) (s : State) : State :=
  match currentStep s, s.run.latched.duration with
  | some (.boilerSoak _ _), some d => if unpaused s ∧ d ≤ n then endStep .condition s else s
  | _, _ => s

/-! ## The steam generator's tick (R87, R88, R94, R96, R97) -/

/-- One count of the fill timer, which stays at its end (R87, R94; log 18). -/
def countFill (s : State) : State :=
  { s with sgc := { s.sgc with fillTimer := satAdd Config.fillSeconds s.sgc.fillTimer 1 } }

/-- Whether a fill or refill has run out of time. -/
def fillExpired (s : State) : Bool :=
  decide (Config.fillSeconds ≤ s.sgc.fillTimer) && s.msu.high.reported != .wet

/-- The steam generator's one-second tick, with what it reports to the run engine. -/
def sgcTick (s : State) : State :=
  match s.sgc.state with
  | .filling =>
    let s := countFill s
    if fillExpired s then settleRun (tankEmptyReport (fillTimesOut s)) else s
  | .refilling =>
    let s := countFill s
    if fillExpired s then settleRun (tankEmptyReport (refillTimesOut s)) else s
  | .heating =>
    if (load s .boiler).mask.isEmpty then
      let s := { s with sgc := { s.sgc with heatCount := satAdd Config.heatSeconds s.sgc.heatCount 1 } }
      if Config.heatSeconds ≤ s.sgc.heatCount then boilerFaults s else s
    else s
  | .draining =>
    match s.sgc.drainCount with
    | .none => s
    | some n =>
      let s := { s with sgc := { s.sgc with drainCount := some (satAdd Config.drainSeconds n 1) } }
      if Config.drainSeconds ≤ n + 1 then settleRun (drainCompletes s) else s
  | .soaking =>
    if soakCounts s then
      let n := satAdd Config.countMax (s.sgc.soakedS.getD 0) 1
      soakReport n { s with sgc := { s.sgc with soakedS := some n } }
    else s
  | .empty | .standing | .ready | .steaming | .fault => s

/-! ## Hand-overs of the scale account outside the steam generator (R105, R108) -/

/-- Derive the stage anew and, on a stage change, hand it to the steam generator (R105, R108). -/
def deriveAndHand (s : State) : State :=
  let t := deriveStage s
  if t.sca.stage = s.sca.stage then t else judgeBoiler t

/-- Clear the run by INIT (R165, R189): no ending of R161 is performed. -/
def initRun (s : State) : State :=
  if s.run.state = .idle then s
  else
    let s := setPause {} s
    { s with run := { s.run with
      state := .idle, outcome := some .aborted, awaiting := .none, latched := {}, endingCause := .none } }

/-! ## Recomputation after SET_VARIABLE (R158) -/

/-- Re-evaluate one latched quantity whose expression names the variable. -/
def reEval {α : Type} (i : Fin 8) (e : Option Expr) (v : Option (Int × Bool)) (conv : Int → α) (old : Option α) :
    Option α × Bool :=
  match e, v with
  | some e, some v => if e.names i then (some (conv v.1), v.2) else (old, false)
  | _, _ => (old, false)

/-- Send changed setpoints to the climate controller (R158, R66). -/
def sendSetpoints (old new : Latched) (s : State) : State :=
  let s := match new.temp with
    | some t => if old.temp = new.temp then s else changeSetpoint t s
    | .none => s
  match new.humidity with
  | some h => if old.humidity = new.humidity then s else changeHumSet h s
  | .none => s

/-- The current step's latched quantities are recomputed for a changed variable (R158). -/
def recompute (i : Fin 8) (s : State) : State :=
  match currentStep s with
  | some (.climate c) =>
    let v := evalStep s (s.run.slot.getD 0) c
    let old := s.run.latched
    let t := reEval i c.temp v.temp id old.temp
    let h := reEval i c.humidity v.humidity id old.humidity
    let d := reEval i c.duration v.duration Int.toNat old.duration
    let k := reEval i c.core v.core id old.core
    let new : Latched := { temp := t.1, humidity := h.1, duration := d.1, core := k.1 }
    let marks := { s.run.marks with clamped := s.run.marks.clamped || t.2 || h.2 || d.2 || k.2 }
    sendSetpoints old new { s with run := { s.run with latched := new, marks := marks } }
  | _ => s

end Sys2Proof.Machine
end

