-- ==== Sys2Proof/Machine/Door.lean ====
section
/-!
DEFINITION. The door and limit unit (09), INIT and the run of the service functions (11).
-/

namespace Sys2Proof.Machine

/-! ## The door (R166 to R168) -/

/-- A door opening (R167). -/
def doorOpens (s : State) : State :=
  let s := { s with dlu := { s.dlu with door := .opened } }
  pauseForDoor (evalLamp (evalFan (addReasonTo .door elements s)))

/-- A door closing (R168). -/
def doorCloses (s : State) : State :=
  let s := { s with dlu := { s.dlu with door := .closed } }
  settleRun (dropPause .door (evalLamp (evalFan (removeReasonFrom .door elements s))))

/-- Whether the input level differs from the door state (R166); an UNSETTLED state differs from both. -/
def doorDiffers (d : Dlu) : Bool :=
  match d.door, d.input with
  | .opened, .opened | .closed, .closed => false
  | .unsettled, _ | .opened, .closed | .closed, .opened => true

/-- The door state takes the input level (R166). -/
def doorTakes (s : State) : State :=
  match s.dlu.input with
  | .opened => doorOpens s
  | .closed => doorCloses s

/-! ## The cavity limit and FAULT mode (R169 to R171) -/

/-- A run meets FAULT mode entry (R163). -/
def faultRun (s : State) : State :=
  match s.run.state with
  | .idle => s
  | .ending => { s with run := { s.run with endingCause := some .faulted } }
  | .active | .awaitConfirm | .holding => enterEnding .faulted s

/-- FAULT mode entry (R169). -/
def enterFaultMode (s : State) : State :=
  let mode := ovenMode s
  let s := { s with dlu := { s.dlu with latch := true } }
  let s := noteMode mode s
  let s := raise .faultMode (setAux { s.ldt.aux with coolFan := true } (addReasonTo .faultMode allLoads s))
  faultRun s

/-- A cause at the fault latch: entry when it was clear, a mere addition when it was set (R169, R170). -/
def limitCause (s : State) : State :=
  let fresh := !s.dlu.latch
  let s := { s with dlu := { s.dlu with causeLimit := true } }
  if fresh then enterFaultMode s else s

/-- The cavity channel's fault at the latch (R169, R170). -/
def sensorCause (s : State) : State :=
  let fresh := !s.dlu.latch
  let s := { s with dlu := { s.dlu with causeSensor := true } }
  if fresh then enterFaultMode s else s

/-- A cavity sample event at the door and limit unit (R169). -/
def limitCavitySample (t : Int) (s : State) : State := if Config.cavityLimit < t then limitCause s else s

/-- A cavity sample event at its three consumers (R13, Table 1.5). The order of the run engine and the limit unit is
free, and shows only when both act (log 9). -/
def cavitySample (t : Int) (s : State) : State :=
  let s := evalFan s
  if reachedNow t s ∧ Config.cavityLimit < t then
    if Config.limitBeforeReached s.run.totalS t then runCavitySample t (limitCavitySample t s)
    else limitCavitySample t (runCavitySample t s)
  else limitCavitySample t (runCavitySample t s)

/-- Whether a cause of FAULT mode is present at the cavity channel (R171). -/
def causePresent (s : State) : Bool :=
  s.msu.cavity.fault
    || (match s.msu.cavity.filtered with
        | .none => true
        | some t => decide (Config.cavityLimit < t))

/-- CLEAR_FAULT for the oven, accepted (R171). -/
def clearOvenFault (s : State) : State :=
  let mode := ovenMode s
  let s := { s with dlu := { s.dlu with latch := false, causeLimit := false, causeSensor := false } }
  let s := removeReasonFrom .faultMode allLoads s
  noteMode mode (setAux { s.ldt.aux with coolFan := false } s)

/-! ## Forcing (R190) and patterns (R191) -/

/-- Write a load's forcing, its demand and FORCE_OFF (R190). -/
def writeForcing (f : Forcing) (l : LoadId) (s : State) : State :=
  let s := { s with svc := { s.svc with forcing := s.svc.forcing.set l f } }
  setDemand (if f = .on then 16 else 0) l (putReason (f == .off) .forceOff l s)

/-- Start or stop a pattern (R191): every forcing becomes NONE, and the first state is written over the loads as they
stand. A FORCE_OFF that stands and stays is no addition, and withdraws nothing (log 39). -/
def startPattern (p : Pattern) (s : State) : State :=
  writePattern p { s with svc := { s.svc with forcing := .of fun _ => .none } }

/-! ## INIT (R189 and the rules of Table 11.1) -/

/-- INIT at the service functions, in SERVICE (R189). -/
def initService (s : State) : State := if s.svc.service then startPattern .none s else s

/-- INIT at the link interface (R187). -/
def initLink (s : State) : State :=
  { s with lif := { s.lif with notices := {}, pendingDef := .none } }

/-- INIT (R189): the run to IDLE, the steam generator from LOW's level, no climate, the frame restarted, the service
functions released, the notice set emptied. -/
def initAll (s : State) : State :=
  let mode := ovenMode s
  let s := initRun s
  let s := initBoiler s
  let s := handOver .absent s
  let s := noteMode mode s
  initLink (initArbiter (initService s))

end Sys2Proof.Machine
end

