-- ==== Sys2Proof/Machine/Store.lean ====
section
/-!
DEFINITION. The editing requests of the program store (07): the position test, the checks in their order, and what an
accepted edit changes.
-/

namespace Sys2Proof.Machine

/-- Write a user slot's program. -/
def putProgram (slot : Nat) (p : Option Program) (s : State) : State :=
  { s with pst := { s.pst with programs := s.pst.programs.setIfInBounds (slot - 2) p } }

/-- Write a record of the pool. -/
def putRecord (n : Nat) (r : Option Step) (s : State) : State :=
  { s with pst := { s.pst with pool := s.pst.pool.setIfInBounds n r } }

/-- The lowest-numbered free record (R128). -/
def lowestFree (s : State) : Option Nat := s.pst.pool.toList.findIdx? Option.isNone

/-- The number of free records (R128). -/
def freeCount (s : State) : Nat := s.pst.pool.toList.countP Option.isNone

/-- Whether the position test refuses an edit at a position of a slot (R129). -/
def positionInUse (s : State) (slot pos : Nat) : Bool :=
  isRunningSlot s slot
    && (match s.run.state with
        | .idle => false
        | .active | .awaitConfirm => decide (pos ≤ s.run.position.getD 0)
        | .holding | .ending => true)

/-- An edit of the running slot is handed to the steam generator (R130). -/
def handEdit (slot : Nat) (s : State) : State := if isRunningSlot s slot then evalLookAhead s else s

/-- Whether a slot number names no DEFINED slot (R129 lets slots 0 and 1 pass to PROTECTED). -/
def noSuchSlot (s : State) (slot : Nat) : Bool := decide (7 < slot) || !slotDefined s slot

/-- The checks of a step record body for a user slot, in their order (R124, R125, R133 to R135), after the slot's
own: the step where it passes. -/
def checkStep (s : State) (slot : Nat) (r : RawStep) : Except ResultCode Step :=
  if slot < 2 then .error .protect
  else if namesAbsent (slotVars s slot) r then .error .noSuch
  else if isBoilerKind r then .error .protect
  else match userStepOf s.clc.table r with
    | some st => .ok st
    | .none => .error .range

/-- Insert a record's reference in a slot's list (R133, R134). -/
def insertRef (slot pos n : Nat) (st : Step) (s : State) : State :=
  match userProgram s slot with
  | some p =>
    handEdit slot (putRecord n (some st)
      (putProgram slot (some { p with steps := p.steps.insertIdx pos n }) s))
  | .none => s

/-- APPEND_STEP's checks (R133): the position, the record number and the step. -/
def checkAppend (slot : Nat) (r : RawStep) (s : State) : Except ResultCode (Nat × Nat × Step) :=
  if noSuchSlot s slot then .error .noSuch
  else match checkStep s slot r with
    | .error e => .error e
    | .ok st =>
      let len := stepCount s slot
      if isRunningSlot s slot ∧ ¬ hasCurrent s then .error .inUse
      else if Config.maxSteps ≤ len then .error .full
      else match lowestFree s with
        | .none => .error .full
        | some n => .ok (len, n, st)

/-- INSERT_STEP's checks (R134): the record number and the step. -/
def checkInsert (slot pos : Nat) (r : RawStep) (s : State) : Except ResultCode (Nat × Step) :=
  if noSuchSlot s slot then .error .noSuch
  else match checkStep s slot r with
    | .error e => .error e
    | .ok st =>
      let len := stepCount s slot
      if len < pos then .error .range
      else if positionInUse s slot pos then .error .inUse
      else if Config.maxSteps ≤ len then .error .full
      else match lowestFree s with
        | .none => .error .full
        | some n => .ok (n, st)

/-- The record number at a position of a user slot's list. -/
def recordAt (s : State) (slot pos : Nat) : Option Nat := (userProgram s slot).bind fun p => p.steps[pos]?

/-- REPLACE_STEP's checks (R135): the record number and the step. -/
def checkReplace (slot pos : Nat) (r : RawStep) (s : State) : Except ResultCode (Nat × Step) :=
  if noSuchSlot s slot then .error .noSuch
  else if slot < 2 then .error .protect
  else match recordAt s slot pos with
    | .none => .error .noSuch
    | some n =>
      match checkStep s slot r with
      | .error e => .error e
      | .ok st => if positionInUse s slot pos then .error .inUse else .ok (n, st)

/-- DELETE_STEP's checks (R136): the record number. -/
def checkDelete (slot pos : Nat) (s : State) : Except ResultCode Nat :=
  if noSuchSlot s slot then .error .noSuch
  else if slot < 2 then .error .protect
  else match recordAt s slot pos with
    | .none => .error .noSuch
    | some n => if positionInUse s slot pos then .error .inUse else .ok n

/-- REPLACE_STEP, accepted (R135). -/
def replaceAt (slot n : Nat) (st : Step) (s : State) : State := handEdit slot (putRecord n (some st) s)

/-- DELETE_STEP, accepted (R136). -/
def deleteAt (slot pos n : Nat) (s : State) : State :=
  match userProgram s slot with
  | some p => handEdit slot (putRecord n .none (putProgram slot (some { p with steps := p.steps.eraseIdx pos }) s))
  | .none => s

/-- RETIRE_PROGRAM's checks (R132). -/
def checkRetire (slot : Nat) (s : State) : Option ResultCode :=
  if noSuchSlot s slot then some .noSuch
  else if slot < 2 then some .protect
  else if isRunningSlot s slot then some .inUse
  else .none

/-- RETIRE_PROGRAM, accepted (R132). -/
def retire (slot : Nat) (s : State) : State :=
  match userProgram s slot with
  | some p => putProgram slot .none (p.steps.foldl (fun s n => putRecord n .none s) s)
  | .none => s

/-! ## DEFINE_PROGRAM (R131, R181) -/

/-- A variable entry, where it lies in its values (R123, R181): outer none is a RANGE fault. -/
def variableOf (v : RawVar) : Option (Option Variable) :=
  if v.presence = 0 then some .none
  else if v.presence = 1 then
    if v.min ≤ v.value ∧ v.value ≤ v.max then
      some (some { value := v.value.toNat, min := v.min.toNat, max := v.max.toNat })
    else .none
  else .none

/-- Four variable entries, where all lie in their values. -/
def variablesOf (v : RawVars) : Option (List (Option Variable)) :=
  match variableOf v.v0, variableOf v.v1, variableOf v.v2, variableOf v.v3 with
  | some a, some b, some c, some d => some [a, b, c, d]
  | _, _, _, _ => .none

/-- The keep-warm field: 0 absent, or 600..900 (R181). -/
def keepWarmOf (w : Word) : Option (Option Nat) :=
  if w.toNat = 0 then some .none
  else if 600 ≤ w.toNat ∧ w.toNat ≤ 900 then some (some w.toNat)
  else .none

/-- Part 0's checks (R181): the pending definition where it passes. -/
def checkPart0 (slot part : Nat) (tag keepWarm : Word) (vars : RawVars) : Except ResultCode PendingDef :=
  if 7 < slot then .error .noSuch
  else if slot < 2 then .error .protect
  else match keepWarmOf keepWarm, variablesOf vars with
    | some k, some vs =>
      if part ≠ 0 ∨ tag.toNat = 0 then .error .range
      else .ok { slot := slot, tag := tag.toNat, keepWarm := k, vars := vs }
    | _, _ => .error .range

/-- Eight variable entries from the two halves. -/
def eightVars (a b : List (Option Variable)) : Vector (Option Variable) 8 :=
  Vector.ofFn fun i => ((a ++ b)[i.val]?).join

/-- Whether a tag is held by another DEFINED slot (R131). -/
def tagTaken (s : State) (slot tag : Nat) : Bool :=
  [2, 3, 4, 5, 6, 7].any fun k =>
    k != slot && ((userProgram s k).map fun p => p.tag == tag).getD false

/-- Whether a step of a program names a variable that a new header makes absent (R131). -/
def dropsNamedVar (s : State) (slot : Nat) (vars : Vector (Option Variable) 8) : Bool :=
  (List.finRange 8).any fun i =>
    (vars[i]).isNone
      && (List.range (stepCount s slot)).any fun p => ((stepAt s slot p).map (Step.names i)).getD false

/-- Part 1's checks (R181, R131): the whole header where it passes. -/
def checkPart1 (slot part : Nat) (vars : RawVars) (s : State) :
    Except ResultCode (PendingDef × Vector (Option Variable) 8) :=
  if 7 < slot then .error .noSuch
  else if slot < 2 then .error .protect
  else match variablesOf vars with
    | .none => .error .range
    | some hi =>
      if part ≠ 1 then .error .range
      else match s.lif.pendingDef with
        | .none => .error .state
        | some d =>
          if d.slot ≠ slot then .error .state
          else
            let all := eightVars d.vars hi
            if tagTaken s slot d.tag then .error .duplicate
            else if isRunningSlot s slot ∨ ((userProgram s slot).isSome ∧ dropsNamedVar s slot all) then
              .error .inUse
            else .ok (d, all)

/-- DEFINE_PROGRAM, accepted at part 1 (R131): the header is written, the step list kept, the pending definition
consumed. -/
def define (d : PendingDef) (vars : Vector (Option Variable) 8) (s : State) : State :=
  let steps := ((userProgram s d.slot).map fun p => p.steps).getD []
  putProgram d.slot (some { tag := d.tag, steps := steps, vars := vars, keepWarm := d.keepWarm })
    { s with lif := { s.lif with pendingDef := .none } }

/-! ## SET_VARIABLE (R137) -/

/-- SET_VARIABLE's checks: the program and the variable where it passes. -/
def checkVariable (slot var : Nat) (s : State) : Except ResultCode (Program × Fin 8 × Variable) :=
  if noSuchSlot s slot then .error .noSuch
  else if slot < 2 then .error .protect
  else if h : var < 8 then
    match userProgram s slot with
    | .none => .error .noSuch
    | some p =>
      match p.vars[var] with
      | .none => .error .noSuch
      | some v => .ok (p, ⟨var, h⟩, v)
  else .error .noSuch

/-- The value as stored: clamped into the variable's range (R137). -/
def clampedValue (v : Variable) (value : Nat) : Nat := (clamp v.min v.max value).toNat

/-- SET_VARIABLE, accepted: the value is stored, and the run engine recomputes a current step that names it. -/
def storeVariable (slot : Nat) (p : Program) (i : Fin 8) (v : Variable) (value : Nat) (s : State) : State :=
  let s := putProgram slot (some { p with vars := p.vars.set i (some { v with value := clampedValue v value }) }) s
  if isRunningSlot s slot && ((currentStep s).map (Step.names i)).getD false then recompute i s else s

end Sys2Proof.Machine
end

