-- ==== Sys2Proof/Machine/Encode.lean ====
section
/-!
DEFINITION. The bytes of a response (R186, Tables 10.7 and 10.8): how each enumeration is numbered, and the bodies of
the reads. Enumerations are numbered from 0 in the order the manual lists them.
-/

namespace Sys2Proof.Machine

/-! ## Enumerations (Table 10.7) -/

/-- The index of a load (00, Names). -/
def loadByte : LoadId → Byte
  | .top => 0
  | .bottom => 1
  | .ring => 2
  | .grill => 3
  | .boiler => 4

/-- A leg (Table 2.1). -/
def legByte : Leg → Byte
  | .a => 0
  | .b => 1

/-- A load's health (Table 2.1). -/
def healthByte : Health → Byte
  | .untested => 0
  | .good => 1
  | .weak => 2
  | .opened => 3
  | .high => 4

/-- A fan speed (Table 2.4). -/
def fanByte : FanSpeed → Byte
  | .off => 0
  | .low => 1
  | .high => 2

/-- A supply connection (Table 3.1). -/
def connectionByte : Connection → Byte
  | .single => 0
  | .dual => 1

/-- A class policy (R48). -/
def policyByte : Policy → Byte
  | .fixed => 0
  | .rotating => 1

/-- A frame state (Table 3.3). -/
def frameStateByte : FrameState → Byte
  | .waiting => 0
  | .firing => 1
  | .halted => 2

/-- A climate kind (Table 4.3). -/
def climateKindByte : ClimateKind → Byte
  | .none => 0
  | .step => 1
  | .hold => 2

/-- A vent setting (Table 4.3). -/
def ventByte : VentSetting → Byte
  | .auto => 0
  | .opened => 1

/-- A boiler state (Table 5.1). -/
def boilerStateByte : BoilerState → Byte
  | .empty => 0
  | .filling => 1
  | .standing => 2
  | .heating => 3
  | .ready => 4
  | .steaming => 5
  | .refilling => 6
  | .soaking => 7
  | .draining => 8
  | .fault => 9

/-- The prior state (Table 5.1), numbered among its own two values (log 16). -/
def priorByte : Prior → Byte
  | .ready => 0
  | .steaming => 1

/-- The boiler's content (Table 5.1). -/
def contentByte : Content → Byte
  | .none => 0
  | .water => 1
  | .descaler => 2
  | .unknown => 3

/-- The boiler's purpose (Table 5.1). -/
def purposeByte : Purpose → Byte
  | .idle => 0
  | .cook => 1
  | .descale => 2
  | .rinse => 3

/-- The content of a fill (Table 10.8). -/
def fillByte : FillContent → Byte
  | .water => 0
  | .descaler => 1

/-- The kind of a step request (Table 10.8). -/
def requestByte : StepRequest → Byte
  | .none => 0
  | .fill _ => 1
  | .soak _ => 2
  | .drain => 3

/-- The content or target of a step request, 2 bytes (Table 10.8). -/
def requestValue : StepRequest → List Byte
  | .none | .drain => natBytes 0
  | .fill c => [0, fillByte c]
  | .soak t => intBytes t

/-- The thermostat (Table 5.1 lists ON before OFF). -/
def thermostatByte (on : Bool) : Byte := if on then 0 else 1

/-- A scale stage (Table 6.1). -/
def stageByte : Stage → Byte
  | .clear => 0
  | .advise => 1
  | .derate => 2
  | .lock => 3

/-- A run state (Table 8.1). -/
def runStateByte : RunState → Byte
  | .idle => 0
  | .active => 1
  | .awaitConfirm => 2
  | .holding => 3
  | .ending => 4

/-- What is awaited (Table 8.1). -/
def awaitingByte : Awaiting → Byte
  | .step => 0
  | .next => 1

/-- The cause of a step end (Table 8.1). -/
def causeByte : EndCause → Byte
  | .condition => 0
  | .cap => 1
  | .skip => 2
  | .confirm => 3

/-- The outcome of a run (Table 8.1). -/
def outcomeByte : RunOutcome → Byte
  | .completed => 0
  | .aborted => 1
  | .faulted => 2

/-- The door state (Table 9.1). -/
def doorByte : DoorState → Byte
  | .unsettled => 0
  | .opened => 1
  | .closed => 2

/-- The oven mode (Table 10.8). -/
def modeByte : OvenMode → Byte
  | .standby => 0
  | .running => 1
  | .fault => 2
  | .service => 3

/-- The probe presence (01, 1.5). -/
def presenceByte : Presence → Byte
  | .present => 0
  | .absent => 1

/-- An electrode's level (01, 1.5). -/
def levelByte : Level → Byte
  | .wet => 0
  | .dry => 1

/-- A result code (Table 10.7). -/
def resultByte : ResultCode → Byte
  | .ok => 0
  | .check => 1
  | .unknown => 2
  | .length => 3
  | .mode => 4
  | .noSuch => 5
  | .protect => 6
  | .range => 7
  | .duplicate => 8
  | .inUse => 9
  | .state => 10
  | .water => 11
  | .full => 12

/-! ## Sets (Table 10.7) -/

/-- The notice set, in the order of Table 10.6. -/
def noticeBits (n : Notices) : List Bool :=
  [n.stepEnded, n.awaitConfirm, n.programEnded, n.doorPause, n.tankEmpty, n.loadFault, n.overload, n.boilerFault,
   n.scaleAdvise, n.scaleDerate, n.scaleLock, n.probeFault, n.sensorFault, n.faultMode]

/-- The notice set, 2 bytes. -/
def noticeBytes (n : Notices) : List Byte := natBytes (setNat (noticeBits n))

/-- The mask-reason set, in the order of Table 2.3, 2 bytes. -/
def maskBytes (m : Mask) : List Byte :=
  natBytes (setNat [m.door, m.pause, m.health, m.level, m.dryfire, m.scale, m.overload, m.supply, m.faultMode,
    m.forceOff])

/-- A set of loads, in index order. -/
def loadSetByte (p : PerLoad Bool) : Byte := byteOf (setNat (allLoads.map p.get))

/-- The pause set, in the order of Table 8.1. -/
def pauseByte (p : PauseSet) : Byte := byteOf (setNat [p.host, p.door, p.tank, p.probe, p.link])

/-- The step marks, in the order of Table 8.1. -/
def marksByte (m : Marks) : Byte := byteOf (setNat [m.clamped, m.timedOut, m.skipped])

/-- The causes of the fault latch, in the order of Table 9.1. -/
def causesByte (d : Dlu) : Byte := byteOf (setNat [d.causeLimit, d.causeSensor])

/-- A small quantity as a list of one byte. -/
def small (n : Nat) : List Byte := [byteOf n]

/-! ## READ_STATUS (R184, Table 10.8) -/

/-- The prompt a status body carries (R164). -/
def currentPrompt (s : State) : Option Nat :=
  match currentStep s with
  | some (.climate c) => some c.prompt
  | some (.confirm p) => some p
  | some (.boilerFill _) | some (.boilerSoak _ _) | some .boilerDrain | .none => .none

/-- A last end: position, cause, marks. -/
def lastEndBytes (e : LastEnd) : List Byte := [byteOf e.position, causeByte e.cause, marksByte e.marks]

/-- The run record, 38 bytes. -/
def runBytes (s : State) : List Byte :=
  let r := s.run
  optBytes 1 small r.slot ++ [runStateByte r.state] ++ optBytes 1 small r.position
    ++ optBytes 1 (fun a => [awaitingByte a]) r.awaiting ++ [pauseByte r.pause]
    ++ natBytes r.elapsedS ++ natBytes r.totalS ++ natBytes r.holdS
    ++ optBytes 2 intBytes r.latched.temp ++ optBytes 2 intBytes r.latched.humidity
    ++ optBytes 2 natBytes r.latched.duration ++ optBytes 2 intBytes r.latched.core
    ++ [marksByte r.marks, flagByte r.degraded] ++ optBytes 3 lastEndBytes r.lastEnd
    ++ optBytes 1 (fun o => [outcomeByte o]) r.endingCause ++ optBytes 1 (fun o => [outcomeByte o]) r.outcome
    ++ optBytes 1 small (currentPrompt s)

/-- The climate, 25 bytes (R78); whether each loop is in use is a flag, 1 for on (log 34). -/
def climateBytes (s : State) : List Byte :=
  let c := s.clc.climate
  [climateKindByte c.kind] ++ optBytes 1 small (if c.kind = .none then .none else some c.mode)
    ++ optBytes 2 intBytes c.setpoint ++ optBytes 1 (fun h => small h.toNat) c.humSet
    ++ [ventByte c.vent, flagByte c.tempUse, flagByte c.humUse]
    ++ natBytes s.clc.heat ++ natBytes s.clc.integral ++ natBytes s.clc.humid
    ++ [byteOf s.clc.demands.top, byteOf s.clc.demands.bottom, byteOf s.clc.demands.ring,
        byteOf s.clc.demands.grill, byteOf s.sgc.share, byteOf s.sgc.humQuanta,
        flagByte s.ldt.aux.vent, fanByte s.ldt.aux.fan]

/-- The boiler, 27 bytes (R102); the served mark, the look-ahead and W are flags, 1 for true (log 40). -/
def boilerBytes (s : State) : List Byte :=
  let b := s.sgc
  [boilerStateByte b.state] ++ optBytes 1 (fun p => [priorByte p]) b.prior
    ++ [contentByte b.content, purposeByte b.purpose] ++ optBytes 2 natBytes b.soakedS
    ++ [flagByte b.tankEmpty, requestByte b.request] ++ requestValue b.request
    ++ [flagByte b.served, flagByte b.lookAhead, flagByte (cookingWant s), byteOf b.share, byteOf b.humQuanta,
        byteOf (steamDemand s), thermostatByte b.thermostat]
    ++ natBytes b.fillTimer ++ natBytes b.heatCount ++ optBytes 2 natBytes b.drainCount ++ [byteOf b.demand]

/-- The door and limit unit, 4 bytes (R173). -/
def doorBytes (s : State) : List Byte :=
  [doorByte s.dlu.door, flagByte s.dlu.latch, causesByte s.dlu, flagByte s.ldt.aux.coolFan]

/-- The status body, 97 bytes (R184, Table 10.8). -/
def statusBody (s : State) : List Byte :=
  [modeByte (ovenMode s)] ++ noticeBytes s.lif.notices ++ runBytes s ++ climateBytes s ++ boilerBytes s ++ doorBytes s

/-! ## The other reads -/

/-- An analog channel: its filtered value and its fault flag (R15). -/
def analogBytes (width : Nat) (enc : Int → List Byte) (a : Analog) : List Byte :=
  optBytes width enc a.filtered ++ [flagByte a.fault]

/-- The body of READ_MEASUREMENTS (R15). -/
def measurementsBody (s : State) : List Byte :=
  let m := s.msu
  let legB := match s.par.supply.connection with
    | .single => .none
    | .dual => m.latest.bind fun r => r.ampsB
  analogBytes 2 intBytes m.cavity ++ analogBytes 2 intBytes m.boiler ++ analogBytes 2 intBytes m.core
    ++ analogBytes 1 (fun h => small h.toNat) m.moisture
    ++ analogBytes 2 intBytes m.voltage ++ analogBytes 2 intBytes m.ampsA ++ analogBytes 2 intBytes m.ampsB
    ++ [presenceByte m.probe.reported, levelByte m.low.reported, levelByte m.high.reported]
    ++ optBytes 2 natBytes (m.latest.map fun r => r.volts) ++ optBytes 2 natBytes (m.latest.map fun r => r.ampsA)
    ++ optBytes 2 natBytes legB

/-- The six auxiliary outputs, in the order of Table 2.4. -/
def auxBytes (a : Aux) : List Byte :=
  [fanByte a.fan, flagByte a.lamp, flagByte a.feedPump, flagByte a.drainPump, flagByte a.vent, flagByte a.coolFan]

/-- A load's position in its class rotation list (R35), counted from 0 (log 32). -/
def listPosition (s : State) (l : LoadId) : Nat := (s.par.lists.get (load s l).cls).idxOf l

/-- The body of READ_LOAD (R35); `on` is a flag, 1 for true (log 40), and the index stands for index and name (log 15). -/
def loadBody (s : State) (l : LoadId) : List Byte :=
  let d := load s l
  [loadByte l] ++ natBytes d.ratedW ++ [byteOf d.cls, legByte d.leg, byteOf d.demand] ++ maskBytes d.mask
    ++ [healthByte d.health] ++ optBytes 2 natBytes d.measuredW
    ++ [flagByte d.verifyDue, byteOf d.served, byteOf d.shortfall, flagByte d.on]
    ++ natBytes d.chargeW ++ [byteOf (listPosition s l)] ++ auxBytes s.ldt.aux

/-- The values in force as READ_FRAME reports them: in WAITING those the next build will take (R59). -/
def inForceRead (s : State) : InForce :=
  match s.par.frame.state with
  | .waiting => valuesNow s
  | .firing | .halted => s.par.frame.inForce

/-- The values in force (R59), grouped by leg: budget and capacity of A, then of B (log 41). -/
def inForceBytes (f : InForce) : List Byte :=
  [connectionByte f.connection] ++ natBytes f.budgetA ++ natBytes f.capA ++ natBytes f.budgetB ++ natBytes f.capB
    ++ [byteOf f.slotHc] ++ allLoads.flatMap fun l => natBytes (f.charge.get l) ++ [legByte (f.leg.get l)]

/-- One slot: the loads placed, the solo reservation of each leg, and each leg's sum (R59), grouped by kind: the
reservations of A and B, then the sums of A and B (log 41). -/
def slotBytes (f : InForce) (t : Slot) : List Byte :=
  [loadSetByte t.placed] ++ optBytes 1 (fun l => [loadByte l]) t.soloA ++ optBytes 1 (fun l => [loadByte l]) t.soloB
    ++ natBytes (legSum f t .a) ++ natBytes (legSum f t .b)

/-- A load's part of the frame (R59); `on` and membership of the withdrawn set are flags, 1 for true (log 40). -/
def loadFrameBytes (s : State) (l : LoadId) : List Byte :=
  [byteOf (load s l).served, byteOf (load s l).shortfall, flagByte (load s l).on,
   flagByte (s.par.frame.withdrawn.get l)]

/-- The stored supply configuration (R59), in the order of Table 3.1, which is the field order of SET_SUPPLY. -/
def supplyBytes (p : Supply) : List Byte :=
  [connectionByte p.connection] ++ natBytes p.budgetA ++ natBytes p.budgetB ++ natBytes p.reserveA
    ++ natBytes p.reserveB ++ [byteOf p.slotHc]

/-- A rotation list with its policy (R59; log 14). -/
def listBytes (p : Policy) (ls : List LoadId) : List Byte := [policyByte p, byteOf ls.length] ++ ls.map loadByte

/-- The body of READ_FRAME (R59); the half-cycle in progress is one byte (log 33). -/
def frameBody (s : State) : List Byte :=
  let f := inForceRead s
  let fr := s.par.frame
  [frameStateByte fr.state, byteOf fr.slot, byteOf fr.half] ++ inForceBytes f
    ++ (List.range 16).flatMap (fun n => slotBytes f (slotOf fr.grid n))
    ++ allLoads.flatMap (loadFrameBytes s) ++ supplyBytes s.par.supply ++ s.par.placement.map byteOf
    ++ (List.range 4).flatMap (fun c => listBytes (s.par.policies.get c) (s.par.lists.get c))

/-- The kind of a step record (Table 10.8). -/
def kindByte : Step → Byte
  | .climate _ => 0
  | .confirm _ => 1
  | .boilerFill _ => 2
  | .boilerSoak _ _ => 3
  | .boilerDrain => 4

/-- A variable entry: absent, or value, minimum and maximum. -/
def variableBytes (v : Option Variable) : List Byte :=
  optBytes 6 (fun v => natBytes v.value ++ natBytes v.min ++ natBytes v.max) v

/-- The record number of a step, absent for the fixed records (R138); one byte on the link (log 42). -/
def recordNumber (s : State) (slot pos : Nat) : Option Nat := if slot < 2 then .none else recordAt s slot pos

/-- The kind and the record number of one step of a list (R138). -/
def stepEntryBytes (s : State) (slot pos : Nat) : List Byte :=
  [((stepAt s slot pos).map kindByte).getD 0] ++ optBytes 1 small (recordNumber s slot pos)

/-- The body of READ_PROGRAM (R138; log 15); whether the slot is the running slot is a flag, 1 for true (log 40). -/
def programBody (s : State) (slot : Nat) : List Byte :=
  let p := userProgram s slot
  let running := isRunningSlot s slot
  [flagByte (slotDefined s slot)] ++ optBytes 2 natBytes (p.map fun p => p.tag)
    ++ optBytes 2 natBytes (p.bind fun p => p.keepWarm) ++ natBytes (stepCount s slot)
    ++ (List.range (stepCount s slot)).flatMap (stepEntryBytes s slot)
    ++ (slotVars s slot).toList.flatMap variableBytes
    ++ [flagByte running] ++ optBytes 1 (fun r => [runStateByte r]) (if running then some s.run.state else .none)
    ++ optBytes 1 small (if running then s.run.position else .none) ++ natBytes (freeCount s)

/-- A variable reference: 0xFF absent. -/
def refByte : Option (Fin 8) → Byte
  | .none => 0xFF
  | some i => byteOf i.val

/-- An expression, 5 bytes; zero bytes when absent (Table 10.8). -/
def exprBytes : Option Expr → List Byte
  | .none => [0, 0, 0, 0, 0]
  | some e => intBytes e.disp ++ [refByte e.base, refByte e.index, byteOf (e.scale + if e.minus then 128 else 0)]

/-- A plain value in the `disp` of an expression without variables (Table 10.8; log 15). -/
def plainExpr (v : Int) : Expr := { disp := v, base := .none, index := .none, scale := 1, minus := false }

/-- The end field. -/
def endByte : EndCond → Byte
  | .time => 0
  | .core => 1
  | .reached => 2
  | .confirm => 3

/-- The on_end field. -/
def onEndByte : OnEnd → Byte
  | .continue => 0
  | .pause => 1

/-- Bytes 1 to 26 of a step record (Table 10.8). -/
def stepFieldBytes : Step → List Byte
  | .climate c =>
    [byteOf c.mode.val, endByte c.endCond, onEndByte c.onEnd, ventByte c.vent, byteOf c.prompt,
     byteOf (setNat [c.temp.isSome, c.humidity.isSome, c.duration.isSome, c.core.isSome])]
      ++ exprBytes c.temp ++ exprBytes c.humidity ++ exprBytes c.duration ++ exprBytes c.core
  | .confirm p => [0, 0, 0, 0, byteOf p, 0] ++ List.replicate 20 0
  | .boilerFill c => [fillByte c, 0, 0, 0, 0, 0] ++ List.replicate 20 0
  | .boilerSoak target secs =>
    [0, 0, 0, 0, 0, byteOf (setNat [true, false, true, false])]
      ++ exprBytes (some (plainExpr target)) ++ exprBytes .none ++ exprBytes (some (plainExpr secs)) ++ exprBytes .none
  | .boilerDrain => List.replicate 26 0

/-- A preview of one expression: its value and its clamped indication (R140; log 15), a flag, 1 for clamped (log 40). -/
def previewBytes (v : Option (Int × Bool)) : List Byte := optBytes 3 (fun v => intBytes v.1 ++ [flagByte v.2]) v

/-- The preview of a humidity, whose value is a percent of one byte (R140, Table 10.7; log 15). -/
def percentPreviewBytes (v : Option (Int × Bool)) : List Byte := optBytes 2 (fun v => small v.1.toNat ++ [flagByte v.2]) v

/-- The previews of a step (R140). -/
def previewsOf (s : State) (slot : Nat) : Step → List Byte
  | .climate c =>
    let v := evalStep s slot c
    previewBytes v.temp ++ percentPreviewBytes v.humidity ++ previewBytes v.duration ++ previewBytes v.core
  | .confirm _ | .boilerFill _ | .boilerSoak _ _ | .boilerDrain => List.replicate 15 0

/-- The body of READ_STEP (R139, R140; log 15); the record number is one byte (log 42). -/
def stepBody (s : State) (slot pos : Nat) (st : Step) : List Byte :=
  [kindByte st] ++ optBytes 1 small (recordNumber s slot pos) ++ stepFieldBytes st ++ previewsOf s slot st

/-- The body of READ_SCALE (R116). -/
def scaleBody (s : State) : List Byte :=
  let a := s.sca
  natBytes a.scaleMg ++ [stageByte a.stage] ++ natBytes a.advise ++ natBytes a.derate ++ natBytes a.lock
    ++ natBytes a.hardness ++ natBytes a.fillMl ++ natBytes (depositMg a)
    ++ [flagByte a.rinseDue, flagByte a.rinseSoaked, flagByte a.restored]

/-! ## Bodies of accepted writes (R186) -/

/-- A heating mode entry as stored (R63): the entry's number first (log 35), the loop switches as flags, 1 for on
(log 34), the range as one optional group (log 16). -/
def entryBody (n : Nat) (e : ModeEntry) : List Byte :=
  [byteOf n, byteOf e.top, byteOf e.bottom, byteOf e.ring, byteOf e.grill, byteOf e.boiler, fanByte e.fan,
   flagByte e.tempLoop, flagByte e.humLoop] ++ optBytes 4 (fun r => intBytes r.1 ++ intBytes r.2) e.range

/-- The water configuration as stored (R114). -/
def waterBody (a : Sca) : List Byte :=
  natBytes a.hardness ++ natBytes a.fillMl ++ natBytes a.advise ++ natBytes a.derate ++ natBytes a.lock

/-- A program header as stored (R131). -/
def headerBody (d : PendingDef) (vars : Vector (Option Variable) 8) : List Byte :=
  [byteOf d.slot] ++ natBytes d.tag ++ optBytes 2 natBytes d.keepWarm ++ vars.toList.flatMap variableBytes

end Sys2Proof.Machine
end

