-- ==== Sys2Proof/Machine/Service.lean ====
section
/-!
DEFINITION. What each request does once it has passed the link interface's checks: the owning block's checks in the
order of R178, the effect, and the response body. A refusal leaves the state as it was.
-/

namespace Sys2Proof.Machine

/-- What a request is answered with, and the state it leaves (R178). -/
structure Answer where
  result : ResultCode
  body : List Byte
  state : State
  deriving DecidableEq, Repr

/-- A refusal: an empty body and the state as it was (R177, R178). -/
def refuse (r : ResultCode) (s : State) : Answer := { result := r, body := [], state := s }

/-- An acceptance with its body (R177). -/
def accept (body : List Byte) (s : State) : Answer := { result := .ok, body := body, state := s }

/-- The load a byte names (00, Names). -/
def loadOf (b : Byte) : Option LoadId :=
  if b = 0 then some .top else if b = 1 then some .bottom else if b = 2 then some .ring
  else if b = 3 then some .grill else if b = 4 then some .boiler else .none

/-- Whether a value lies in a range, both ends included. -/
def inRange (lo hi x : Nat) : Bool := decide (lo ≤ x) && decide (x ≤ hi)

/-! ## Reads -/

/-- READ_STATUS (R184). -/
def answerReadStatus (s : State) : Answer := accept (statusBody s) s

/-- READ_MEASUREMENTS (R15). -/
def answerReadMeasurements (s : State) : Answer := accept (measurementsBody s) s

/-- READ_LOAD (R35). -/
def answerReadLoad (load : Byte) (s : State) : Answer :=
  match loadOf load with
  | .none => refuse .noSuch s
  | some l => accept (loadBody s l) s

/-- READ_FRAME (R59). -/
def answerReadFrame (s : State) : Answer := accept (frameBody s) s

/-- READ_PROGRAM (R138). -/
def answerReadProgram (slot : Byte) (s : State) : Answer :=
  if 7 < slot.toNat then refuse .noSuch s else accept (programBody s slot.toNat) s

/-- READ_STEP (R139). -/
def answerReadStep (slot position : Byte) (s : State) : Answer :=
  if 7 < slot.toNat then refuse .noSuch s
  else match stepAt s slot.toNat position.toNat with
    | .none => refuse .noSuch s
    | some st => accept (stepBody s slot.toNat position.toNat st) s

/-- READ_SCALE (R116). -/
def answerReadScale (s : State) : Answer := accept (scaleBody s) s

/-- READ_NOTICES (R183). -/
def answerReadNotices (s : State) : Answer := accept (noticeBytes s.lif.notices) s

/-! ## Notices (R183) -/

/-- Remove the kinds that a set of Table 10.6 names. -/
def clearKinds (kinds : Word) (n : Notices) : Notices where
  stepEnded := n.stepEnded && !kinds.getLsbD 0
  awaitConfirm := n.awaitConfirm && !kinds.getLsbD 1
  programEnded := n.programEnded && !kinds.getLsbD 2
  doorPause := n.doorPause && !kinds.getLsbD 3
  tankEmpty := n.tankEmpty && !kinds.getLsbD 4
  loadFault := n.loadFault && !kinds.getLsbD 5
  overload := n.overload && !kinds.getLsbD 6
  boilerFault := n.boilerFault && !kinds.getLsbD 7
  scaleAdvise := n.scaleAdvise && !kinds.getLsbD 8
  scaleDerate := n.scaleDerate && !kinds.getLsbD 9
  scaleLock := n.scaleLock && !kinds.getLsbD 10
  probeFault := n.probeFault && !kinds.getLsbD 11
  sensorFault := n.sensorFault && !kinds.getLsbD 12
  faultMode := n.faultMode && !kinds.getLsbD 13

/-- CLEAR_NOTICES (R183). -/
def answerClearNotices (kinds : Word) (s : State) : Answer :=
  if 0x3FFF < kinds.toNat then refuse .range s
  else
    let s := { s with lif := { s.lif with notices := clearKinds kinds s.lif.notices } }
    accept (noticeBytes s.lif.notices) s

/-! ## Configuration -/

/-- The leg a byte names. -/
def legOf (b : Byte) : Option Leg := if b = 0 then some .a else if b = 1 then some .b else .none

/-- A class change of a load moves it to the tail of its new class's list (R34). -/
def moveClass (l : LoadId) (old new : Nat) (p : PerClass (List LoadId)) : PerClass (List LoadId) :=
  if old = new then p
  else
    let p := p.set old ((p.get old).filter fun x => x ≠ l)
    p.set new (toTail l (p.get new))

/-- Write a load's configuration (R34). -/
def configureLoad (l : LoadId) (ratedW cls : Nat) (leg : Leg) (s : State) : State :=
  let old := load s l
  let s := updLoad (fun d =>
    { d with ratedW := ratedW, cls := cls, leg := leg
             verifyDue := d.verifyDue || decide (d.ratedW ≠ ratedW) || decide (d.leg ≠ leg) }) l s
  { s with par := { s.par with lists := moveClass l old.cls cls s.par.lists } }

/-- SET_LOAD (R34). -/
def answerSetLoad (load : Byte) (ratedW : Word) (cls leg : Byte) (s : State) : Answer :=
  match loadOf load with
  | .none => refuse .noSuch s
  | some l =>
    match legOf leg with
    | .none => refuse .range s
    | some g =>
      if inRange 100 3000 ratedW.toNat && decide (cls.toNat ≤ 3) then
        accept [] (configureLoad l ratedW.toNat cls.toNat g s)
      else refuse .range s

/-- The connection a byte names. -/
def connectionOf (b : Byte) : Option Connection :=
  if b = 0 then some .single else if b = 1 then some .dual else .none

/-- Whether the five numbers of a SET_SUPPLY body lie in their ranges (R39, Table 3.1). -/
def supplyOk (b : RawSupply) : Bool :=
  inRange 1000 7400 b.budgetA.toNat && inRange 1000 7400 b.budgetB.toNat && inRange 0 500 b.reserveA.toNat
    && inRange 0 500 b.reserveB.toNat && inRange 20 250 b.slotHc.toNat

/-- The supply configuration a body gives. -/
def supplyOf (c : Connection) (b : RawSupply) : Supply where
  connection := c
  budgetA := b.budgetA.toNat
  budgetB := b.budgetB.toNat
  reserveA := b.reserveA.toNat
  reserveB := b.reserveB.toNat
  slotHc := b.slotHc.toNat

/-- Store the supply configuration (R39); a change of the connection sets every `verify_due` and reaches the
measurement unit (R11). -/
def configureSupply (p : Supply) (s : State) : State :=
  let changed := s.par.supply.connection ≠ p.connection
  let s := { s with par := { s.par with supply := p } }
  if changed then connectionChanged p.connection (allLoads.foldl (fun s l => setVerify l s) s) else s

/-- SET_SUPPLY (R39). -/
def answerSetSupply (b : RawSupply) (s : State) : Answer :=
  match connectionOf b.connection with
  | .none => refuse .range s
  | some c => if supplyOk b then accept [] (configureSupply (supplyOf c b) s) else refuse .range s

/-- SET_PLACEMENT (R47). -/
def answerSetPlacement (slots : List Byte) (s : State) : Answer :=
  let order := slots.map BitVec.toNat
  if order.any (fun n => decide (15 < n)) then refuse .range s
  else if order.Nodup then accept [] { s with par := { s.par with placement := order } }
  else refuse .duplicate s

/-- The policy a byte names. -/
def policyOf (b : Byte) : Option Policy := if b = 0 then some .fixed else if b = 1 then some .rotating else .none

/-- The loads a list of bytes names, where every one names a load. -/
def loadsOf : List Byte → Option (List LoadId)
  | [] => some []
  | b :: bs =>
    match loadOf b, loadsOf bs with
    | some l, some ls => some (l :: ls)
    | _, _ => .none

/-- SET_ROTATION (R49). -/
def answerSetRotation (cls policy : Byte) (members : Option (List Byte)) (s : State) : Answer :=
  let c := cls.toNat
  if 3 < c then refuse .noSuch s
  else match policyOf policy with
    | .none => refuse .range s
    | some p =>
      let setPolicy (s : State) : State := { s with par := { s.par with policies := s.par.policies.set c p } }
      match members with
      | .none => accept [] (setPolicy s)
      | some bs =>
        match loadsOf bs with
        | .none => refuse .range s
        | some ls =>
          if ls.any (fun l => decide ((load s l).cls ≠ c)) || decide (ls.length ≠ (s.par.lists.get c).length) then
            refuse .range s
          else if ls.Nodup then
            accept [] { setPolicy s with par := { (setPolicy s).par with lists := s.par.lists.set c ls } }
          else refuse .duplicate s

/-- The fan speed a byte names. -/
def fanOf (b : Byte) : Option FanSpeed :=
  if b = 0 then some .off else if b = 1 then some .low else if b = 2 then some .high else .none

/-- The flag a byte holds: 0 or 1 (Table 10.7; log 13). The loop switches of SET_MODE_ENTRY are such flags, 1 for on
(log 34). -/
def flagOf (b : Byte) : Option Bool := if b = 0 then some false else if b = 1 then some true else .none

/-- The entry a SET_MODE_ENTRY body gives, where its fields lie in their values (R63). -/
def entryOf (b : RawEntry) : Option ModeEntry :=
  match fanOf b.fan, flagOf b.tempLoop, flagOf b.humLoop with
  | some fan, some t, some h =>
    if [b.top, b.bottom, b.ring, b.grill, b.boiler].all (fun w => decide (w.toNat ≤ 100))
        && (!t || (decide (300 ≤ b.min.toInt) && decide (b.min.toInt ≤ b.max.toInt)
          && decide (b.max.toInt ≤ 2500))) then
      some
        { top := b.top.toNat, bottom := b.bottom.toNat, ring := b.ring.toNat, grill := b.grill.toNat
          boiler := b.boiler.toNat, fan := fan, tempLoop := t, humLoop := h
          range := if t then some (b.min.toInt, b.max.toInt) else .none }
    else .none
  | _, _, _ => .none

/-- SET_MODE_ENTRY (R63). -/
def answerSetModeEntry (b : RawEntry) (s : State) : Answer :=
  if h : b.entry.toNat < 8 then
    match entryOf b with
    | .none => refuse .range s
    | some e =>
      accept (entryBody b.entry.toNat e)
        { s with clc := { s.clc with table := s.clc.table.set b.entry.toNat e } }
  else refuse .noSuch s

/-- SET_LOOP (R77, Table 4.9). -/
def answerSetLoop (kp ki ks period band : Byte) (s : State) : Answer :=
  if decide (ks.toNat ≤ 50) && inRange 2 16 period.toNat && decide (band.toNat ≤ 20) then
    accept [] { s with clc := { s.clc with loop :=
      { kp := kp.toNat, ki := ki.toNat, ks := ks.toNat, period := period.toNat, band := band.toNat } } }
  else refuse .range s

/-- SET_WATER (R114). -/
def answerSetWater (b : RawWater) (s : State) : Answer :=
  if inRange 50 400 b.fillMl.toNat && decide (1 ≤ b.advise.toNat) && decide (b.advise.toNat < b.derate.toNat)
      && decide (b.derate.toNat < b.lock.toNat) && decide (b.lock.toNat ≤ 60000) then
    let a := { s.sca with
      hardness := min 1000 b.hardness.toNat, fillMl := b.fillMl.toNat, advise := b.advise.toNat
      derate := b.derate.toNat, lock := b.lock.toNat }
    accept (waterBody a) (deriveAndHand { s with sca := a })
  else refuse .range s

/-- Restore the scale account (R115). -/
def restoreScale (scaleMg hardness : Nat) (due : Bool) (s : State) : State :=
  let t := deriveStage { s with sca := { s.sca with
    scaleMg := scaleMg, rinseDue := due, hardness := min 1000 hardness, rinseSoaked := false, restored := true } }
  if t.sca.stage ≠ s.sca.stage ∨ due ≠ s.sca.rinseDue then judgeBoiler (judgeDegraded t) else t

/-- SET_SCALE (R115). -/
def answerSetScale (scaleMg : Word) (rinseDue : Byte) (hardness : Word) (s : State) : Answer :=
  match flagOf rinseDue with
  | .none => refuse .range s
  | some due => accept [] (restoreScale scaleMg.toNat hardness.toNat due s)

/-! ## Program editing (07) -/

/-- DEFINE_PROGRAM, part 0 (R181). -/
def answerDefine0 (slot part : Byte) (tag keepWarm : Word) (vars : RawVars) (s : State) : Answer :=
  match checkPart0 slot.toNat part.toNat tag keepWarm vars with
  | .error e => refuse e s
  | .ok d => accept [] { s with lif := { s.lif with pendingDef := some d } }

/-- DEFINE_PROGRAM, part 1 (R181, R131). -/
def answerDefine1 (slot part : Byte) (vars : RawVars) (s : State) : Answer :=
  match checkPart1 slot.toNat part.toNat vars s with
  | .error e => refuse e s
  | .ok (d, all) => accept (headerBody d all) (define d all s)

/-- RETIRE_PROGRAM (R132). -/
def answerRetire (slot : Byte) (s : State) : Answer :=
  match checkRetire slot.toNat s with
  | some e => refuse e s
  | .none => accept [] (retire slot.toNat s)

/-- APPEND_STEP (R133); the record number is one byte (log 42). -/
def answerAppend (slot : Byte) (r : RawStep) (s : State) : Answer :=
  match checkAppend slot.toNat r s with
  | .error e => refuse e s
  | .ok (pos, n, st) => accept [byteOf pos, byteOf n] (insertRef slot.toNat pos n st s)

/-- INSERT_STEP (R134); the record number is one byte (log 42). -/
def answerInsert (slot position : Byte) (r : RawStep) (s : State) : Answer :=
  match checkInsert slot.toNat position.toNat r s with
  | .error e => refuse e s
  | .ok (n, st) => accept [byteOf n] (insertRef slot.toNat position.toNat n st s)

/-- REPLACE_STEP (R135); the record number is one byte (log 42). -/
def answerReplace (slot position : Byte) (r : RawStep) (s : State) : Answer :=
  match checkReplace slot.toNat position.toNat r s with
  | .error e => refuse e s
  | .ok (n, st) => accept [byteOf n] (replaceAt slot.toNat n st s)

/-- DELETE_STEP (R136). -/
def answerDelete (slot position : Byte) (s : State) : Answer :=
  match checkDelete slot.toNat position.toNat s with
  | .error e => refuse e s
  | .ok n => accept [] (deleteAt slot.toNat position.toNat n s)

/-- SET_VARIABLE (R137). -/
def answerSetVariable (slot var : Byte) (value : Word) (s : State) : Answer :=
  match checkVariable slot.toNat var.toNat s with
  | .error e => refuse e s
  | .ok (p, i, v) => accept (natBytes (clampedValue v value.toNat)) (storeVariable slot.toNat p i v value.toNat s)

/-! ## Run control (08) -/

/-- Whether the scale account blocks a START (R110). -/
def startBlocked (s : State) (slot : Nat) : Bool :=
  (s.sca.rinseDue && decide (2 ≤ slot))
    || (s.sca.stage == .lock
      && (List.range (stepCount s slot)).any fun p => ((stepAt s slot p).map (isSteamStep s)).getD false)

/-- The run record of an accepted START, before its first step starts (R144). -/
def freshRun (slot : Nat) : Run where
  slot := some slot
  state := .active
  position := some 0
  awaiting := .none
  pause := {}
  elapsedS := 0
  totalS := 0
  holdS := 0
  latched := {}
  marks := {}
  degraded := false
  lastEnd := .none
  endingCause := .none
  outcome := .none

/-- START, accepted (R144): the run record is replaced, the oven mode follows, an open door pauses the run, and the
step at position 0 starts. -/
def beginRun (slot : Nat) (s : State) : State :=
  let mode := ovenMode s
  let s := { setPause {} s with run := freshRun slot }
  let s := noteMode mode s
  let s := if s.dlu.door = .opened then pauseForDoor s else s
  startStep (stepCount s slot) 0 s

/-- START (R143, R144). -/
def answerStart (slot : Byte) (s : State) : Answer :=
  let n := slot.toNat
  if noSuchSlot s n then refuse .noSuch s
  else if stepCount s n = 0 then refuse .state s
  else if startBlocked s n then refuse .water s
  else accept [] (beginRun n s)

/-- PAUSE (R154). -/
def answerPause (s : State) : Answer :=
  if takesPause s.run.state .host then accept [] (addPause .host s) else refuse .state s

/-- RESUME (R154); the event that empties the pause set judges a served boiler step (R149). -/
def answerResume (s : State) : Answer :=
  if s.run.pause.host || s.run.pause.tank then
    accept [] (settleRun (dropPause .tank (dropPause .host s)))
  else refuse .state s

/-- CONFIRM (R151). -/
def answerConfirm (s : State) : Answer :=
  if s.run.state = .awaitConfirm then
    match s.run.awaiting with
    | some .step => accept [] (endStep .confirm s)
    | some .next => accept [] (proceed s)
    | .none => refuse .state s
  else refuse .state s

/-- Whether SKIP finds a step to end (R152). -/
def maySkip (s : State) : Bool :=
  s.run.state == .active || (s.run.state == .awaitConfirm && s.run.awaiting == some .step)

/-- SKIP (R152). -/
def answerSkip (s : State) : Answer :=
  if runsSystem s then refuse .protect s
  else if maySkip s then
    accept [] (endStep .skip { s with run := { s.run with marks := { s.run.marks with skipped := true } } })
  else refuse .state s

/-- Set CLAMPED when a clamp changed a value (R155). -/
def markClamp (clamped : Bool) (s : State) : State :=
  { s with run := { s.run with marks := { s.run.marks with clamped := s.run.marks.clamped || clamped } } }

/-- ADJUST of the temperature (R155). -/
def adjustTemp (value : Int) (s : State) : Answer :=
  if hasCurrent s && s.run.latched.temp.isSome then
    let range := tempRange s.clc.climate.entry
    let v := clamp range.1 range.2 value
    let s := { s with run := { s.run with latched := { s.run.latched with temp := some v } } }
    accept (intBytes v) (changeSetpoint v (markClamp (v ≠ value) s))
  else refuse .state s

/-- ADJUST of the humidity (R155). -/
def adjustHumidity (value : Int) (s : State) : Answer :=
  if hasCurrent s && s.run.latched.humidity.isSome then
    let v := clamp 0 100 value
    let s := { s with run := { s.run with latched := { s.run.latched with humidity := some v } } }
    accept (intBytes v) (changeHumSet v (markClamp (v ≠ value) s))
  else refuse .state s

/-- ADJUST of the duration: the remaining time wanted (R155). -/
def adjustDuration (value : Nat) (s : State) : Answer :=
  if hasCurrent s && s.run.latched.duration.isSome && s.run.awaiting != some .next then
    let v := satAdd Config.countMax s.run.elapsedS value
    let s := { s with run := { s.run with latched := { s.run.latched with duration := some v } } }
    accept (natBytes v) (markClamp (v ≠ s.run.elapsedS + value) s)
  else refuse .state s

/-- ADJUST (R155). -/
def answerAdjust (quantity : Byte) (value : Word) (s : State) : Answer :=
  if runsSystem s then refuse .protect s
  else if quantity = 0 then adjustTemp value.toInt s
  else if quantity = 1 then adjustHumidity value.toNat s
  else if quantity = 2 then adjustDuration value.toNat s
  else refuse .range s

/-- END_HOLD (R160). -/
def answerEndHold (s : State) : Answer :=
  if s.run.state = .holding then accept [] (enterEnding .completed s) else refuse .state s

/-- ABORT (R162). -/
def answerAbort (s : State) : Answer :=
  match s.run.state with
  | .active | .awaitConfirm | .holding => accept [] (enterEnding .aborted s)
  | .idle | .ending => refuse .state s

/-! ## Loads and faults -/

/-- ROTATE_LOWEST (R50). -/
def answerRotateLowest (b : Byte) (s : State) : Answer :=
  match loadOf b with
  | .none => refuse .noSuch s
  | some l =>
    let c := (load s l).cls
    accept [] { s with par := { s.par with lists := s.par.lists.set c (toTail l (s.par.lists.get c)) } }

/-- VERIFY ALL on one load: one that carries HEALTH is passed over (R30). -/
def verifyUnlessHealth (s : State) (l : LoadId) : State := if (load s l).mask.health then s else setVerify l s

/-- VERIFY (R30). -/
def answerVerify (b : Byte) (s : State) : Answer :=
  if b = 0xFF then accept [] (allLoads.foldl verifyUnlessHealth s)
  else match loadOf b with
    | .none => refuse .noSuch s
    | some l => if (load s l).mask.health then refuse .state s else accept [] (setVerify l s)

/-- CLEAR_FAULT for the oven (R171). -/
def clearFaultOven (s : State) : Answer :=
  if !s.dlu.latch || causePresent s then refuse .state s else accept [] (clearOvenFault s)

/-- Whether the boiler is cool enough to be cleared (R100). -/
def boilerCooled (s : State) : Bool :=
  !s.msu.boiler.fault
    && (match s.msu.boiler.filtered with
        | some t => decide (t < Config.boilerCool)
        | .none => false)

/-- CLEAR_FAULT for the boiler (R100). -/
def clearFaultBoiler (s : State) : Answer :=
  if s.sgc.state = .fault ∧ boilerCooled s then accept [] (clearBoilerFault s) else refuse .state s

/-- Return a load to use (R31). -/
def clearLoadFault (l : LoadId) (s : State) : State :=
  updLoad (fun d => { d with health := .untested, measuredW := .none, verifyDue := true }) l (removeReason .health l s)

/-- CLEAR_FAULT for a load (R31). -/
def clearFaultLoad (b : Byte) (s : State) : Answer :=
  match loadOf b with
  | .none => refuse .noSuch s
  | some l =>
    if (load s l).health = .opened ∨ (load s l).health = .high then accept [] (clearLoadFault l s)
    else refuse .state s

/-- CLEAR_FAULT (R179): the load byte is read for LOAD alone. -/
def answerClearFault (target b : Byte) (s : State) : Answer :=
  if target = 0 then clearFaultOven s
  else if target = 1 then clearFaultBoiler s
  else if target = 2 then clearFaultLoad b s
  else refuse .range s

/-! ## Service functions (11) -/

/-- The forcing an action byte gives: ON, OFF, RELEASE. -/
def forcingOf (b : Byte) : Option Forcing :=
  if b = 0 then some .on else if b = 1 then some .off else if b = 2 then some .none else .none

/-- FORCE (R190). -/
def answerForce (b action : Byte) (s : State) : Answer :=
  match loadOf b with
  | .none => refuse .noSuch s
  | some l =>
    match forcingOf action with
    | .none => refuse .range s
    | some f => if s.svc.pattern ≠ .none then refuse .state s else accept [] (writeForcing f l s)

/-- The first state of the pattern a byte names (log 12). -/
def patternOf (b : Byte) : Option Pattern :=
  if b = 0 then some .allOff else if b = 1 then some (.walk .top)
  else if b = 2 then some (.alternate .even) else if b = 3 then some .none else .none

/-- PATTERN (R191). -/
def answerPattern (b : Byte) (s : State) : Answer :=
  match patternOf b with
  | .none => refuse .range s
  | some p => accept [] (startPattern p s)

/-- INIT (R189). -/
def answerInit (s : State) : Answer := accept [] (initAll s)

/-! ## One request -/

/-- The request at its owning block. -/
def perform : Request → State → Answer
  | .readStatus, s => answerReadStatus s
  | .readMeasurements, s => answerReadMeasurements s
  | .readLoad l, s => answerReadLoad l s
  | .readFrame, s => answerReadFrame s
  | .readProgram slot, s => answerReadProgram slot s
  | .readStep slot pos, s => answerReadStep slot pos s
  | .readScale, s => answerReadScale s
  | .readNotices, s => answerReadNotices s
  | .clearNotices kinds, s => answerClearNotices kinds s
  | .setLoad l w c g, s => answerSetLoad l w c g s
  | .setSupply b, s => answerSetSupply b s
  | .setPlacement slots, s => answerSetPlacement slots s
  | .setRotation c p ms, s => answerSetRotation c p ms s
  | .setModeEntry b, s => answerSetModeEntry b s
  | .setLoop kp ki ks period band, s => answerSetLoop kp ki ks period band s
  | .setWater b, s => answerSetWater b s
  | .setScale mg due h, s => answerSetScale mg due h s
  | .defineProgram0 slot part tag keep vars, s => answerDefine0 slot part tag keep vars s
  | .defineProgram1 slot part vars, s => answerDefine1 slot part vars s
  | .retireProgram slot, s => answerRetire slot s
  | .appendStep slot r, s => answerAppend slot r s
  | .insertStep slot pos r, s => answerInsert slot pos r s
  | .replaceStep slot pos r, s => answerReplace slot pos r s
  | .deleteStep slot pos, s => answerDelete slot pos s
  | .setVariable slot var v, s => answerSetVariable slot var v s
  | .start slot, s => answerStart slot s
  | .pause, s => answerPause s
  | .resume, s => answerResume s
  | .confirm, s => answerConfirm s
  | .skip, s => answerSkip s
  | .adjust q v, s => answerAdjust q v s
  | .endHold, s => answerEndHold s
  | .abort, s => answerAbort s
  | .rotateLowest l, s => answerRotateLowest l s
  | .verify l, s => answerVerify l s
  | .clearFault t l, s => answerClearFault t l s
  | .force l a, s => answerForce l a s
  | .pattern p, s => answerPattern p s
  | .init, s => answerInit s

/-- The groups of requests of Table 10.5. -/
inductive RequestGroup where
  | read | configure | scale | edit | start | run | loads | always | service
  deriving DecidableEq, Repr

/-- The group of a request (Table 10.5). -/
def groupOfRequest : Request → RequestGroup
  | .readStatus | .readMeasurements | .readLoad _ | .readFrame | .readProgram _ | .readStep _ _ | .readScale
  | .readNotices | .clearNotices _ => .read
  | .setLoad _ _ _ _ | .setSupply _ | .setPlacement _ | .setRotation _ _ _ | .setModeEntry _ | .setLoop _ _ _ _ _
  | .setWater _ => .configure
  | .setScale _ _ _ => .scale
  | .defineProgram0 _ _ _ _ _ | .defineProgram1 _ _ _ | .retireProgram _ | .appendStep _ _ | .insertStep _ _ _
  | .replaceStep _ _ _ | .deleteStep _ _ | .setVariable _ _ _ => .edit
  | .start _ => .start
  | .pause | .resume | .confirm | .skip | .adjust _ _ | .endHold | .abort => .run
  | .rotateLowest _ | .verify _ => .loads
  | .clearFault _ _ | .init => .always
  | .force _ _ | .pattern _ => .service

/-- Whether a request is valid in an oven mode (R180, Table 10.5). -/
def validIn (r : Request) (m : OvenMode) : Bool :=
  match groupOfRequest r, m with
  | .read, _ | .always, _ => true
  | .configure, .standby | .configure, .service => true
  | .configure, .running | .configure, .fault => false
  | .scale, .standby | .start, .standby => true
  | .scale, .running | .scale, .fault | .scale, .service => false
  | .start, .running | .start, .fault | .start, .service => false
  | .edit, .standby | .edit, .running | .edit, .fault => true
  | .edit, .service => false
  | .run, .running => true
  | .run, .standby | .run, .fault | .run, .service => false
  | .loads, .standby | .loads, .running | .loads, .service => true
  | .loads, .fault => false
  | .service, .service => true
  | .service, .standby | .service, .running | .service, .fault => false

/-- A request whose code is known: checks 3 and 4 of R178, then its owning block. -/
def handle (r : Request) (s : State) : Answer :=
  if !requestLengthOk r then refuse .length s
  else if validIn r (ovenMode s) then perform r s
  else refuse .mode s

end Sys2Proof.Machine
end

