-- ==== Sys2Proof/Machine/Link.lean ====
section
/-!
DEFINITION. The link interface (10): receiving a frame byte by byte, taking a whole frame, link silence, and the
response.
-/

namespace Sys2Proof.Machine

/-- Begin the response (R177): the part holds the turn. -/
def respond (code : Byte) (a : Answer) : State :=
  { a.state with lif := { a.state.lif with
    rx := .answering, gap := false, response := some { code := code, result := a.result, body := a.body } } }

/-- The bytes of a response frame (R177, Table 10.8). -/
def responseBytes (r : Response) : List Byte :=
  let m := byteOf (r.body.length + 2)
  let inner := m :: r.code :: resultByte r.result :: r.body
  0xA7 :: (inner ++ [inner.foldl (fun a b => a ^^^ b) 0])

/-- The arrival of a valid frame (R185): a silent link is heard again before the request is carried out, and the
silence timer restarts while RUNNING. The event that empties the pause set judges a served boiler step (R149). -/
def validFrame (s : State) : State :=
  let s :=
    if s.lif.silent then settleRun (dropPause .link { s with lif := { s.lif with silent := false } }) else s
  { s with lif := { s.lif with silence := ovenMode s == .running } }

/-- A frame that has passed check 1 (R178, checks 2 to 5). -/
def answerFrame (code : Byte) (body : List Byte) (s : State) : Answer :=
  match decodeRequest code body with
  | .unknown => refuse .unknown s
  | .badLength => refuse .length s
  | .request r => handle r s

/-- Take a received frame, whose check byte has arrived (R177, R178). -/
def takeFrame (code : Byte) (body : List Byte) (check : Byte) (s : State) : State :=
  if check = checkByte code body then respond code (answerFrame code body (validFrame s))
  else respond code (refuse .check s)

/-- The receive side as a whole frame leaves it before its check byte (R175). -/
def loadBuffer (code : Byte) (body : List Byte) (s : State) : State :=
  { s with lif := { s.lif with rx := .check, length := body.length + 1, buffer := code :: body, gap := true } }

/-- A whole frame sent by the host (log 5): discarded while the part holds the turn (R177). -/
def frameRow (code : Byte) (body : List Byte) (check : Byte) (s : State) : State :=
  if s.lif.rx = .answering then s else takeFrame code body check (loadBuffer code body s)

/-- A request sent by the host in a whole frame with a right check byte (log 5). -/
def requestRow (r : Request) (s : State) : State :=
  if s.lif.rx = .answering then s
  else respond (requestCode r) (handle r (validFrame (loadBuffer (requestCode r) (requestBody r) s)))

/-- A received byte (R175). -/
def linkByte (b : Byte) (s : State) : State :=
  match s.lif.rx with
  | .hunt =>
    if b = 0xA7 then { s with lif := { s.lif with rx := .length, buffer := [], gap := true } } else s
  | .length =>
    if 1 ≤ b.toNat ∧ b.toNat ≤ 49 then
      { s with lif := { s.lif with rx := .body, length := b.toNat, gap := true } }
    else { s with lif := { s.lif with rx := .hunt, gap := false } }
  | .body =>
    let buffer := s.lif.buffer ++ [b]
    { s with lif := { s.lif with
      rx := if s.lif.length ≤ buffer.length then .check else .body, buffer := buffer, gap := true } }
  | .check => takeFrame (s.lif.buffer.headD 0) s.lif.buffer.tail b s
  | .answering => s

/-- The gap timer expires (R176). -/
def gapExpires (s : State) : State :=
  if s.lif.gap then { s with lif := { s.lif with rx := .hunt, buffer := [], gap := false } } else s

/-- The last byte of the response has been sent (R177). -/
def responseSent (s : State) : State :=
  if s.lif.rx = .answering then { s with lif := { s.lif with rx := .hunt, response := .none } } else s

/-- The silence timer reaches 60 s (R185). -/
def linkSilent (s : State) : State :=
  if s.lif.silence then
    addPause .link { s with lif := { s.lif with silence := false, silent := true } }
  else s

end Sys2Proof.Machine
end

