-- ==== Sys2Proof/Machine/Sample.lean ====
section
/-!
DEFINITION. Samples with what their reports do at the consumers (R7 to R9, R13, Table 1.5), release from reset (R188),
and the rows that name one case of another event.
-/

namespace Sys2Proof.Machine

/-! ## Release from reset (R188) -/

/-- The state at release: every block in its reset state, the SVC strap sampled and the door switch read (R166); the
commands that wait are the world's and stay (log 6). -/
def released (strapHigh : Bool) (door : DoorLevel) (queue : List Instr) : State :=
  { State.reset with
    svc := { Svc.reset with service := strapHigh }
    dlu := { Dlu.reset with input := door }
    pending := queue }

/-! ## Analog samples -/

/-- What a cavity sample's report does (R13, R76, R169). -/
def cavityReport (r : Report) (s : State) : State :=
  match r with
  | .nothing => s
  | .faultSet => sensorCause (evalFan s)
  | .sample | .clearedThenSample =>
    match s.msu.cavity.filtered with
    | some t => cavitySample t s
    | .none => s

/-- The boiler's sample event, made only with a filtered value (R13). -/
def boilerEvent (s : State) : State :=
  match s.msu.boiler.filtered with
  | some t => boilerSample t s
  | .none => s

/-- What a boiler sample's report does (R88, R89, R95, R99). A fault that clears is an event of its own, and the sample
event follows it in the state that it leaves (R13). -/
def boilerReport (r : Report) (s : State) : State :=
  match r with
  | .nothing => s
  | .faultSet => boilerChannelFaults s
  | .sample => boilerEvent s
  | .clearedThenSample => boilerEvent (boilerChannelClears s)

/-- What a moisture sample's report does (R74). -/
def moistureReport (r : Report) (s : State) : State :=
  match r with
  | .nothing | .sample | .clearedThenSample => s
  | .faultSet => moistureFaults s

/-- What a core sample's report does (R157, R148). -/
def coreReport (r : Report) (s : State) : State :=
  match r with
  | .nothing => s
  | .faultSet => loseProbe s
  | .sample | .clearedThenSample =>
    match s.msu.core.filtered with
    | some t => runCoreSample t s
    | .none => s

/-- A sample of an analog channel and its consumers (R2 to R6, R13). -/
def analogSample (i : AnalogInput) (raw : Int) (s : State) : State :=
  match i with
  | .cavity => let r := sampleChannel .cavity raw s; cavityReport r.2 r.1
  | .boiler => let r := sampleChannel .boiler raw s; boilerReport r.2 r.1
  | .moisture => let r := sampleChannel .moisture raw s; moistureReport r.2 r.1

/-! ## The probe (R7, R8, R157) -/

/-- The presence sample: the debounced channel, and whether a change is reported. The first sample sets the reported
state directly (R8). -/
def presenceSample (contact : Presence) (m : Msu) : Digital Presence × Bool :=
  if m.probeSeen then sampleDigital contact m.probe else ({ reported := contact, changeRun := 0 }, false)

/-- Store the presence sample; a reported change leaves the core channel empty (R7). -/
def storePresence (p : Digital Presence × Bool) (s : State) : State :=
  { s with msu := { s.msu with
    probe := p.1, probeSeen := true, core := if p.2 then emptyAnalog s.msu.core else s.msu.core } }

/-- A probe sample (R7): presence first, the removal reported, then the core temperature while PRESENT. -/
def probeSample (contact : Presence) (raw : Int) (s : State) : State :=
  let p := presenceSample contact s.msu
  let s := storePresence p s
  match p.1.reported with
  | .absent => if p.2 then loseProbe s else s
  | .present => let r := sampleChannel .core raw s; coreReport r.2 r.1

/-! ## The electrodes (R8, R9, R103) -/

/-- Whether an electrode sample is inconsistent (R9). -/
def inconsistent (low high : Level) : Bool := high == .wet && low == .dry

/-- Store both electrodes' channels. -/
def storeElectrodes (low high : Digital Level) (s : State) : State :=
  { s with msu := { s.msu with low := low, high := high, electrodesSeen := true } }

/-- The first electrode sample after reset (R8, R9), and the start-up decision it gives (R103). -/
def firstElectrodes (low high : Level) (s : State) : State :=
  let low := if inconsistent low high then .wet else low
  let s := storeElectrodes { reported := low, changeRun := 0 } { reported := high, changeRun := 0 } s
  match low with
  | .wet => drainUnknown s
  | .dry => s

/-- What an edge of LOW does (R92, R97, R98). -/
def lowEdge (l : Level) (s : State) : State :=
  match l with
  | .dry => lowFallsDry s
  | .wet => lowRisesWet s

/-- What an edge of HIGH does (R86, R93, R98). -/
def highEdge (l : Level) (s : State) : State :=
  match l with
  | .dry => s
  | .wet => highRisesWet s

/-- A later electrode sample (R8, R9). -/
def laterElectrodes (low high : Level) (s : State) : State :=
  let l := sampleDigital low s.msu.low
  let h := sampleDigital high s.msu.high
  let s := storeElectrodes l.1 h.1 s
  let s := if l.2 then lowEdge low s else s
  settleRun (if h.2 then highEdge high s else s)

/-- An electrode sample (R8, R9). -/
def electrodeSample (low high : Level) (s : State) : State :=
  if !s.msu.electrodesSeen then firstElectrodes low high s
  else if inconsistent low high then s
  else laterElectrodes low high s

/-! ## The door timer (R166) -/

/-- A level change at the door switch (R166). -/
def doorSwitch (level : DoorLevel) (s : State) : State :=
  { s with dlu := { s.dlu with input := level, debounce := true } }

/-- The debounce timer reaches 50 ms (R166). -/
def debounceExpires (s : State) : State :=
  if s.dlu.debounce then
    let s := { s with dlu := { s.dlu with debounce := false } }
    if doorDiffers s.dlu then doorTakes s else s
  else s

/-- The loop timer expires (R67). -/
def loopExpires (s : State) : State :=
  if s.clc.loopTimer.isSome then restartLoopTimer (loopUpdate s) else s

/-! ## Rows that name one case of another event (log 4) -/

/-- The zero-cross ends the slot in progress (R41). -/
def endsSlot (z : Crossing) (s : State) : Bool :=
  qualified z s && s.par.frame.state == .firing && atSlotEnd s

/-- The zero-cross ends slot 15 (R41). -/
def endsFrame (z : Crossing) (s : State) : Bool := endsSlot z s && decide (15 ≤ s.par.frame.slot)

/-- The zero-cross ends half-cycle 4 of a solo slot (R44). -/
def endsBaseline (z : Crossing) (s : State) : Bool :=
  let t := slotOf s.par.frame.grid s.par.frame.slot
  qualified z s && s.par.frame.state == .firing && !atSlotEnd s && decide (s.par.frame.half = 4)
    && (t.soloA.isSome || t.soloB.isSome)

/-- The tick ends a fill by its timeout (R87). -/
def fillDue (s : State) : Bool := s.sgc.state == .filling && fillExpired (countFill s)

/-- The tick ends a refill by its timeout (R94). -/
def refillDue (s : State) : Bool := s.sgc.state == .refilling && fillExpired (countFill s)

/-- The tick carries the heat count to 600 (R88). -/
def heatDue (s : State) : Bool :=
  s.sgc.state == .heating && (load s .boiler).mask.isEmpty && decide (Config.heatSeconds ≤ s.sgc.heatCount + 1)

/-- The tick carries the drain count to 40 (R97). -/
def drainDue (s : State) : Bool :=
  s.sgc.state == .draining
    && (match s.sgc.drainCount with
        | some n => decide (Config.drainSeconds ≤ n + 1)
        | .none => false)

/-- The tick carries the soak count to the latched duration (R149). -/
def soakDue (s : State) : Bool :=
  s.sgc.state == .soaking && soakCounts s && unpaused s
    && (match currentStep s, s.run.latched.duration with
        | some (.boilerSoak _ _), some d => decide (d ≤ satAdd Config.countMax (s.sgc.soakedS.getD 0) 1)
        | _, _ => false)

/-- The tick ends the current step by its time or its cap (R147). -/
def stepDue (s : State) : Bool := unpaused s && (timeEnd (tickCounts s)).isSome

/-- The tick carries `hold_s` to 3600 (R160). -/
def holdDue (s : State) : Bool := s.run.state == .holding && decide (Config.holdSeconds ≤ s.run.holdS + 1)

/-- An event that is due, or nothing (log 3). -/
def whenDue (due : Bool) (event : State → State) (s : State) : State := if due then event s else s

end Sys2Proof.Machine
end

