-- ==== Sys2Proof/Machine/Events.lean ====
section
/-!
DEFINITION. The meanings of the events that reach the part at its pins and by its timers, one for each row of the table.
-/

namespace Sys2Proof.Machine

/-- RESET_RELEASE (R188). -/
def execResetRelease (strapHigh : Bool) (door : DoorLevel) (s : State) : Host.Outcome State Fault Refusal :=
  .next (released strapHigh door s.pending)

/-- ANALOG_SAMPLE (R2 to R6, R13). -/
def execAnalogSample (input : AnalogInput) (raw : Int) (s : State) : Host.Outcome State Fault Refusal :=
  .next (analogSample input raw s)

/-- PROBE_SAMPLE (R7, R8). -/
def execProbeSample (contact : Presence) (raw : Int) (s : State) : Host.Outcome State Fault Refusal :=
  .next (probeSample contact raw s)

/-- ELECTRODE_SAMPLE (R8, R9). -/
def execElectrodeSample (low high : Level) (s : State) : Host.Outcome State Fault Refusal :=
  .next (electrodeSample low high s)

/-- MAINS_SAMPLE (R11). -/
def execMainsSample (input : MainsInput) (s : State) : Host.Outcome State Fault Refusal := .next (mainsSample input s)

/-- ZERO_CROSS (R10, R41 to R46). -/
def execZeroCross (z : Crossing) (s : State) : Host.Outcome State Fault Refusal := .next (zeroCross z s)

/-- SLOT_END (R41): the zero-cross that ends a slot. -/
def execSlotEnd (z : Crossing) (s : State) : Host.Outcome State Fault Refusal :=
  .next (whenDue (endsSlot z s) (zeroCross z) s)

/-- FRAME_BOUNDARY (R41): the zero-cross that ends slot 15. -/
def execFrameBoundary (z : Crossing) (s : State) : Host.Outcome State Fault Refusal :=
  .next (whenDue (endsFrame z s) (zeroCross z) s)

/-- SOLO_BASELINE_END (R44): the zero-cross that ends half-cycle 4 of a solo slot. -/
def execSoloBaselineEnd (z : Crossing) (s : State) : Host.Outcome State Fault Refusal :=
  .next (whenDue (endsBaseline z s) (zeroCross z) s)

/-- SUPPLY_LOSS (R45). -/
def execSupplyLoss (s : State) : Host.Outcome State Fault Refusal := .next (supplyLost s)

/-- DOOR_SWITCH_CHANGE (R166). -/
def execDoorSwitchChange (level : DoorLevel) (s : State) : Host.Outcome State Fault Refusal :=
  .next (doorSwitch level s)

/-- DOOR_DEBOUNCE_EXPIRY (R166 to R168). -/
def execDoorDebounceExpiry (s : State) : Host.Outcome State Fault Refusal := .next (debounceExpires s)

/-- LOOP_UPDATE (R67). -/
def execLoopUpdate (s : State) : Host.Outcome State Fault Refusal := .next (loopExpires s)

/-- SGC_CLOCK_TICK (R87, R88, R94, R96, R97). -/
def execSgcClockTick (s : State) : Host.Outcome State Fault Refusal := .next (sgcTick s)

/-- FILL_TIMEOUT (R87): the tick that carries the fill timer to 90 s in FILLING. -/
def execFillTimeout (s : State) : Host.Outcome State Fault Refusal := .next (whenDue (fillDue s) sgcTick s)

/-- REFILL_TIMEOUT (R94): the tick that carries the fill timer to 90 s in REFILLING. -/
def execRefillTimeout (s : State) : Host.Outcome State Fault Refusal := .next (whenDue (refillDue s) sgcTick s)

/-- HEAT_TIMEOUT (R88, R99): the tick that carries the heat count to 600. -/
def execHeatTimeout (s : State) : Host.Outcome State Fault Refusal := .next (whenDue (heatDue s) sgcTick s)

/-- DRAIN_COMPLETE (R97): the tick that carries the drain count to 40. -/
def execDrainComplete (s : State) : Host.Outcome State Fault Refusal := .next (whenDue (drainDue s) sgcTick s)

/-- SOAK_DURATION_REACHED (R149): the tick whose `soaked_s` report ends the soak step. -/
def execSoakDurationReached (s : State) : Host.Outcome State Fault Refusal := .next (whenDue (soakDue s) sgcTick s)

/-- STEP_TICK (R147, R160). -/
def execStepTick (s : State) : Host.Outcome State Fault Refusal := .next (stepTick s)

/-- STEP_DURATION_EXPIRY (R147): the tick that ends the current step. -/
def execStepDurationExpiry (s : State) : Host.Outcome State Fault Refusal := .next (whenDue (stepDue s) stepTick s)

/-- HOLD_TIMEOUT (R160): the tick that carries `hold_s` to 3600. -/
def execHoldTimeout (s : State) : Host.Outcome State Fault Refusal := .next (whenDue (holdDue s) stepTick s)

/-- LINK_BYTE (R175). -/
def execLinkByte (b : Byte) (s : State) : Host.Outcome State Fault Refusal := .next (linkByte b s)

/-- GAP_TIMEOUT (R176). -/
def execGapTimeout (s : State) : Host.Outcome State Fault Refusal := .next (gapExpires s)

/-- RESPONSE_COMPLETE (R177). -/
def execResponseComplete (s : State) : Host.Outcome State Fault Refusal := .next (responseSent s)

/-- LINK_SILENCE (R185). -/
def execLinkSilence (s : State) : Host.Outcome State Fault Refusal := .next (linkSilent s)

end Sys2Proof.Machine
end

