-- ==== Sys2Proof/Machine/Requests.lean ====
section
/-!
DEFINITION. The meanings of the host link's frames, one for each row of the table: each is taken as a whole frame, and
a request is answered as its owning rule says (`perform`).
-/

namespace Sys2Proof.Machine

/-- BAD_CHECK_FRAME (R178, check 1). -/
def execBadCheckFrame (code : Byte) (body : List Byte) (check : Byte) (s : State) : Host.Outcome State Fault Refusal :=
  .next (frameRow code body check s)

/-- UNKNOWN_REQUEST (R175, R178, check 2). -/
def execUnknownRequest (code : Byte) (body : List Byte) (s : State) : Host.Outcome State Fault Refusal :=
  .next (frameRow code body (checkByte code body) s)

/-- READ_STATUS (R184). -/
def execReadStatus (s : State) : Host.Outcome State Fault Refusal := .next (requestRow .readStatus s)

/-- READ_MEASUREMENTS (R15). -/
def execReadMeasurements (s : State) : Host.Outcome State Fault Refusal := .next (requestRow .readMeasurements s)

/-- READ_LOAD (R35). -/
def execReadLoad (load : Byte) (s : State) : Host.Outcome State Fault Refusal := .next (requestRow (.readLoad load) s)

/-- READ_FRAME (R59). -/
def execReadFrame (s : State) : Host.Outcome State Fault Refusal := .next (requestRow .readFrame s)

/-- READ_PROGRAM (R138). -/
def execReadProgram (slot : Byte) (s : State) : Host.Outcome State Fault Refusal :=
  .next (requestRow (.readProgram slot) s)

/-- READ_STEP (R139, R140). -/
def execReadStep (slot position : Byte) (s : State) : Host.Outcome State Fault Refusal :=
  .next (requestRow (.readStep slot position) s)

/-- READ_SCALE (R116). -/
def execReadScale (s : State) : Host.Outcome State Fault Refusal := .next (requestRow .readScale s)

/-- READ_NOTICES (R183). -/
def execReadNotices (s : State) : Host.Outcome State Fault Refusal := .next (requestRow .readNotices s)

/-- CLEAR_NOTICES (R183). -/
def execClearNotices (kinds : Word) (s : State) : Host.Outcome State Fault Refusal :=
  .next (requestRow (.clearNotices kinds) s)

/-- SET_LOAD (R34). -/
def execSetLoad (load : Byte) (ratedW : Word) (cls leg : Byte) (s : State) : Host.Outcome State Fault Refusal :=
  .next (requestRow (.setLoad load ratedW cls leg) s)

/-- SET_SUPPLY (R39). -/
def execSetSupply (body : RawSupply) (s : State) : Host.Outcome State Fault Refusal :=
  .next (requestRow (.setSupply body) s)

/-- SET_PLACEMENT (R47). -/
def execSetPlacement (slots : List Byte) (s : State) : Host.Outcome State Fault Refusal :=
  .next (requestRow (.setPlacement slots) s)

/-- SET_ROTATION (R49). -/
def execSetRotation (cls policy : Byte) (members : Option (List Byte)) (s : State) : Host.Outcome State Fault Refusal :=
  .next (requestRow (.setRotation cls policy members) s)

/-- SET_MODE_ENTRY (R63). -/
def execSetModeEntry (body : RawEntry) (s : State) : Host.Outcome State Fault Refusal :=
  .next (requestRow (.setModeEntry body) s)

/-- SET_LOOP (R77). -/
def execSetLoop (kp ki ks period band : Byte) (s : State) : Host.Outcome State Fault Refusal :=
  .next (requestRow (.setLoop kp ki ks period band) s)

/-- SET_WATER (R114). -/
def execSetWater (body : RawWater) (s : State) : Host.Outcome State Fault Refusal :=
  .next (requestRow (.setWater body) s)

/-- SET_SCALE (R115). -/
def execSetScale (scaleMg : Word) (rinseDue : Byte) (hardness : Word) (s : State) : Host.Outcome State Fault Refusal :=
  .next (requestRow (.setScale scaleMg rinseDue hardness) s)

/-- DEFINE_PROGRAM_PART0 (R181). -/
def execDefineProgramPart0 (slot part : Byte) (tag keepWarm : Word) (vars : RawVars) (s : State) : Host.Outcome State Fault Refusal :=
  .next (requestRow (.defineProgram0 slot part tag keepWarm vars) s)

/-- DEFINE_PROGRAM_PART1 (R131, R181). -/
def execDefineProgramPart1 (slot part : Byte) (vars : RawVars) (s : State) : Host.Outcome State Fault Refusal :=
  .next (requestRow (.defineProgram1 slot part vars) s)

/-- RETIRE_PROGRAM (R132). -/
def execRetireProgram (slot : Byte) (s : State) : Host.Outcome State Fault Refusal :=
  .next (requestRow (.retireProgram slot) s)

/-- APPEND_STEP (R133). -/
def execAppendStep (slot : Byte) (step : RawStep) (s : State) : Host.Outcome State Fault Refusal :=
  .next (requestRow (.appendStep slot step) s)

/-- INSERT_STEP (R134). -/
def execInsertStep (slot position : Byte) (step : RawStep) (s : State) : Host.Outcome State Fault Refusal :=
  .next (requestRow (.insertStep slot position step) s)

/-- REPLACE_STEP (R135). -/
def execReplaceStep (slot position : Byte) (step : RawStep) (s : State) : Host.Outcome State Fault Refusal :=
  .next (requestRow (.replaceStep slot position step) s)

/-- DELETE_STEP (R136). -/
def execDeleteStep (slot position : Byte) (s : State) : Host.Outcome State Fault Refusal :=
  .next (requestRow (.deleteStep slot position) s)

/-- SET_VARIABLE (R137). -/
def execSetVariable (slot var : Byte) (value : Word) (s : State) : Host.Outcome State Fault Refusal :=
  .next (requestRow (.setVariable slot var value) s)

/-- START (R143, R144). -/
def execStart (slot : Byte) (s : State) : Host.Outcome State Fault Refusal := .next (requestRow (.start slot) s)

/-- PAUSE (R154). -/
def execPause (s : State) : Host.Outcome State Fault Refusal := .next (requestRow .pause s)

/-- RESUME (R154). -/
def execResume (s : State) : Host.Outcome State Fault Refusal := .next (requestRow .resume s)

/-- CONFIRM (R151). -/
def execConfirm (s : State) : Host.Outcome State Fault Refusal := .next (requestRow .confirm s)

/-- SKIP (R152). -/
def execSkip (s : State) : Host.Outcome State Fault Refusal := .next (requestRow .skip s)

/-- ADJUST_TEMP (R155). -/
def execAdjustTemp (value : Word) (s : State) : Host.Outcome State Fault Refusal :=
  .next (requestRow (.adjust 0 value) s)

/-- ADJUST_HUMIDITY (R155). -/
def execAdjustHumidity (value : Word) (s : State) : Host.Outcome State Fault Refusal :=
  .next (requestRow (.adjust 1 value) s)

/-- ADJUST_DURATION (R155). -/
def execAdjustDuration (value : Word) (s : State) : Host.Outcome State Fault Refusal :=
  .next (requestRow (.adjust 2 value) s)

/-- END_HOLD (R160). -/
def execEndHold (s : State) : Host.Outcome State Fault Refusal := .next (requestRow .endHold s)

/-- ABORT (R162). -/
def execAbort (s : State) : Host.Outcome State Fault Refusal := .next (requestRow .abort s)

/-- ROTATE_LOWEST (R50). -/
def execRotateLowest (load : Byte) (s : State) : Host.Outcome State Fault Refusal :=
  .next (requestRow (.rotateLowest load) s)

/-- VERIFY (R30). -/
def execVerify (load : Byte) (s : State) : Host.Outcome State Fault Refusal := .next (requestRow (.verify load) s)

/-- CLEAR_FAULT_OVEN (R171, R179): the load byte is ignored. -/
def execClearFaultOven (load : Byte) (s : State) : Host.Outcome State Fault Refusal :=
  .next (requestRow (.clearFault 0 load) s)

/-- CLEAR_FAULT_BOILER (R100, R179): the load byte is ignored. -/
def execClearFaultBoiler (load : Byte) (s : State) : Host.Outcome State Fault Refusal :=
  .next (requestRow (.clearFault 1 load) s)

/-- CLEAR_FAULT_LOAD (R31). -/
def execClearFaultLoad (load : Byte) (s : State) : Host.Outcome State Fault Refusal :=
  .next (requestRow (.clearFault 2 load) s)

/-- FORCE_ON (R190). -/
def execForceOn (load : Byte) (s : State) : Host.Outcome State Fault Refusal := .next (requestRow (.force load 0) s)

/-- FORCE_OFF (R190). -/
def execForceOff (load : Byte) (s : State) : Host.Outcome State Fault Refusal := .next (requestRow (.force load 1) s)

/-- FORCE_RELEASE (R190). -/
def execForceRelease (load : Byte) (s : State) : Host.Outcome State Fault Refusal :=
  .next (requestRow (.force load 2) s)

/-- PATTERN_ALL_OFF (R191). -/
def execPatternAllOff (s : State) : Host.Outcome State Fault Refusal := .next (requestRow (.pattern 0) s)

/-- PATTERN_WALK (R191). -/
def execPatternWalk (s : State) : Host.Outcome State Fault Refusal := .next (requestRow (.pattern 1) s)

/-- PATTERN_ALTERNATE (R191). -/
def execPatternAlternate (s : State) : Host.Outcome State Fault Refusal := .next (requestRow (.pattern 2) s)

/-- PATTERN_NONE (R191). -/
def execPatternNone (s : State) : Host.Outcome State Fault Refusal := .next (requestRow (.pattern 3) s)

/-- INIT (R189). -/
def execInit (s : State) : Host.Outcome State Fault Refusal := .next (requestRow .init s)

end Sys2Proof.Machine
end

