-- ==== Sys2Proof/Machine/Dispatch.lean ====
section
/-! DEFINITION. One arm for each command of spec/opcode_table.json, each one call of its meaning. -/

namespace Sys2Proof.Machine

/-- A command's effect on everything but the queue. -/
def exec (i : Instr) (s : State) : Host.Outcome State Fault Refusal :=
  match i with
  | .resetRelease strapHigh door => Sys2Proof.Machine.execResetRelease strapHigh door s
  | .analogSample input raw => Sys2Proof.Machine.execAnalogSample input raw s
  | .probeSample contact raw => Sys2Proof.Machine.execProbeSample contact raw s
  | .electrodeSample low high => Sys2Proof.Machine.execElectrodeSample low high s
  | .mainsSample input => Sys2Proof.Machine.execMainsSample input s
  | .zeroCross z => Sys2Proof.Machine.execZeroCross z s
  | .slotEnd z => Sys2Proof.Machine.execSlotEnd z s
  | .frameBoundary z => Sys2Proof.Machine.execFrameBoundary z s
  | .soloBaselineEnd z => Sys2Proof.Machine.execSoloBaselineEnd z s
  | .supplyLoss => Sys2Proof.Machine.execSupplyLoss s
  | .doorSwitchChange level => Sys2Proof.Machine.execDoorSwitchChange level s
  | .doorDebounceExpiry => Sys2Proof.Machine.execDoorDebounceExpiry s
  | .loopUpdate => Sys2Proof.Machine.execLoopUpdate s
  | .sgcClockTick => Sys2Proof.Machine.execSgcClockTick s
  | .fillTimeout => Sys2Proof.Machine.execFillTimeout s
  | .refillTimeout => Sys2Proof.Machine.execRefillTimeout s
  | .heatTimeout => Sys2Proof.Machine.execHeatTimeout s
  | .drainComplete => Sys2Proof.Machine.execDrainComplete s
  | .soakDurationReached => Sys2Proof.Machine.execSoakDurationReached s
  | .stepTick => Sys2Proof.Machine.execStepTick s
  | .stepDurationExpiry => Sys2Proof.Machine.execStepDurationExpiry s
  | .holdTimeout => Sys2Proof.Machine.execHoldTimeout s
  | .linkByte b => Sys2Proof.Machine.execLinkByte b s
  | .gapTimeout => Sys2Proof.Machine.execGapTimeout s
  | .responseComplete => Sys2Proof.Machine.execResponseComplete s
  | .linkSilence => Sys2Proof.Machine.execLinkSilence s
  | .badCheckFrame code body check => Sys2Proof.Machine.execBadCheckFrame code body check s
  | .unknownRequest code body => Sys2Proof.Machine.execUnknownRequest code body s
  | .readStatus => Sys2Proof.Machine.execReadStatus s
  | .readMeasurements => Sys2Proof.Machine.execReadMeasurements s
  | .readLoad load => Sys2Proof.Machine.execReadLoad load s
  | .readFrame => Sys2Proof.Machine.execReadFrame s
  | .readProgram slot => Sys2Proof.Machine.execReadProgram slot s
  | .readStep slot position => Sys2Proof.Machine.execReadStep slot position s
  | .readScale => Sys2Proof.Machine.execReadScale s
  | .readNotices => Sys2Proof.Machine.execReadNotices s
  | .clearNotices kinds => Sys2Proof.Machine.execClearNotices kinds s
  | .setLoad load ratedW cls leg => Sys2Proof.Machine.execSetLoad load ratedW cls leg s
  | .setSupply body => Sys2Proof.Machine.execSetSupply body s
  | .setPlacement slots => Sys2Proof.Machine.execSetPlacement slots s
  | .setRotation cls policy members => Sys2Proof.Machine.execSetRotation cls policy members s
  | .setModeEntry body => Sys2Proof.Machine.execSetModeEntry body s
  | .setLoop kp ki ks period band => Sys2Proof.Machine.execSetLoop kp ki ks period band s
  | .setWater body => Sys2Proof.Machine.execSetWater body s
  | .setScale scaleMg rinseDue hardness => Sys2Proof.Machine.execSetScale scaleMg rinseDue hardness s
  | .defineProgramPart0 slot part tag keepWarm vars => Sys2Proof.Machine.execDefineProgramPart0 slot part tag keepWarm vars s
  | .defineProgramPart1 slot part vars => Sys2Proof.Machine.execDefineProgramPart1 slot part vars s
  | .retireProgram slot => Sys2Proof.Machine.execRetireProgram slot s
  | .appendStep slot step => Sys2Proof.Machine.execAppendStep slot step s
  | .insertStep slot position step => Sys2Proof.Machine.execInsertStep slot position step s
  | .replaceStep slot position step => Sys2Proof.Machine.execReplaceStep slot position step s
  | .deleteStep slot position => Sys2Proof.Machine.execDeleteStep slot position s
  | .setVariable slot var value => Sys2Proof.Machine.execSetVariable slot var value s
  | .start slot => Sys2Proof.Machine.execStart slot s
  | .pause => Sys2Proof.Machine.execPause s
  | .resume => Sys2Proof.Machine.execResume s
  | .confirm => Sys2Proof.Machine.execConfirm s
  | .skip => Sys2Proof.Machine.execSkip s
  | .adjustTemp value => Sys2Proof.Machine.execAdjustTemp value s
  | .adjustHumidity value => Sys2Proof.Machine.execAdjustHumidity value s
  | .adjustDuration value => Sys2Proof.Machine.execAdjustDuration value s
  | .endHold => Sys2Proof.Machine.execEndHold s
  | .abort => Sys2Proof.Machine.execAbort s
  | .rotateLowest load => Sys2Proof.Machine.execRotateLowest load s
  | .verify load => Sys2Proof.Machine.execVerify load s
  | .clearFaultOven load => Sys2Proof.Machine.execClearFaultOven load s
  | .clearFaultBoiler load => Sys2Proof.Machine.execClearFaultBoiler load s
  | .clearFaultLoad load => Sys2Proof.Machine.execClearFaultLoad load s
  | .forceOn load => Sys2Proof.Machine.execForceOn load s
  | .forceOff load => Sys2Proof.Machine.execForceOff load s
  | .forceRelease load => Sys2Proof.Machine.execForceRelease load s
  | .patternAllOff => Sys2Proof.Machine.execPatternAllOff s
  | .patternWalk => Sys2Proof.Machine.execPatternWalk s
  | .patternAlternate => Sys2Proof.Machine.execPatternAlternate s
  | .patternNone => Sys2Proof.Machine.execPatternNone s
  | .init => Sys2Proof.Machine.execInit s

end Sys2Proof.Machine
end

