-- ==== Sys2Proof/Safety.lean ====
section
/-!
DEFINITION. What counts as a safe state, in the terms the claims use: the laws the manual states of its records, each
as a predicate of one state; what one command leaves alone; and what it is for a request to be answered.
-/

namespace Sys2Proof.Machine

/-! ## Frames -/

/-- The blocks of the state (00, Figure 1), with the service functions. -/
inductive Block where
  | msu | ldt | par | clc | sgc | sca | pst | run | dlu | lif | svc
  deriving DecidableEq, Repr

/-- One block is the same in two states. -/
def sameBlock (b : Block) (s t : State) : Prop :=
  match b with
  | .msu => t.msu = s.msu
  | .ldt => t.ldt = s.ldt
  | .par => t.par = s.par
  | .clc => t.clc = s.clc
  | .sgc => t.sgc = s.sgc
  | .sca => t.sca = s.sca
  | .pst => t.pst = s.pst
  | .run => t.run = s.run
  | .dlu => t.dlu = s.dlu
  | .lif => t.lif = s.lif
  | .svc => t.svc = s.svc

/-- Every block outside the list is the same in both states. -/
def ChangesOnly (bs : List Block) (s t : State) : Prop := ∀ b, b ∉ bs → sameBlock b s t

/-- The configuration that only SET_* requests, edits and the arbiter change. -/
def SameConfig (s t : State) : Prop :=
  t.par.supply = s.par.supply ∧ t.par.placement = s.par.placement ∧ t.par.lists = s.par.lists
    ∧ t.par.policies = s.par.policies ∧ t.clc.table = s.clc.table ∧ t.clc.loop = s.clc.loop ∧ t.pst = s.pst
    ∧ t.svc = s.svc
    ∧ (∀ l, (load t l).ratedW = (load s l).ratedW ∧ (load t l).cls = (load s l).cls
        ∧ (load t l).leg = (load s l).leg ∧ (load t l).health = (load s l).health
        ∧ (load t l).measuredW = (load s l).measuredW ∧ (load t l).verifyDue = (load s l).verifyDue)
    ∧ t.sca.hardness = s.sca.hardness ∧ t.sca.fillMl = s.sca.fillMl ∧ t.sca.advise = s.sca.advise
    ∧ t.sca.derate = s.sca.derate ∧ t.sca.lock = s.sca.lock

/-- An edit of the store changes no other block but through the steam generator's look-ahead (R130). -/
def SameConfigButStore (s t : State) : Prop :=
  ChangesOnly [.lif, .pst, .sgc, .ldt, .par, .sca, .run] s t ∧ t.lif.pendingDef = s.lif.pendingDef
    ∧ t.par.supply = s.par.supply ∧ t.par.placement = s.par.placement ∧ t.par.lists = s.par.lists
    ∧ t.par.policies = s.par.policies ∧ t.run = { s.run with degraded := t.run.degraded }

/-! ## Requests and their answers -/

/-- The request that a request row carries (Table 10.4). -/
def rowRequest : Instr → Option Request
  | .readStatus => some .readStatus
  | .readMeasurements => some .readMeasurements
  | .readLoad l => some (.readLoad l)
  | .readFrame => some .readFrame
  | .readProgram slot => some (.readProgram slot)
  | .readStep slot pos => some (.readStep slot pos)
  | .readScale => some .readScale
  | .readNotices => some .readNotices
  | .clearNotices kinds => some (.clearNotices kinds)
  | .setLoad l w c g => some (.setLoad l w c g)
  | .setSupply b => some (.setSupply b)
  | .setPlacement slots => some (.setPlacement slots)
  | .setRotation c p ms => some (.setRotation c p ms)
  | .setModeEntry b => some (.setModeEntry b)
  | .setLoop kp ki ks period band => some (.setLoop kp ki ks period band)
  | .setWater b => some (.setWater b)
  | .setScale mg due h => some (.setScale mg due h)
  | .defineProgramPart0 slot part tag keep vars => some (.defineProgram0 slot part tag keep vars)
  | .defineProgramPart1 slot part vars => some (.defineProgram1 slot part vars)
  | .retireProgram slot => some (.retireProgram slot)
  | .appendStep slot r => some (.appendStep slot r)
  | .insertStep slot pos r => some (.insertStep slot pos r)
  | .replaceStep slot pos r => some (.replaceStep slot pos r)
  | .deleteStep slot pos => some (.deleteStep slot pos)
  | .setVariable slot var v => some (.setVariable slot var v)
  | .start slot => some (.start slot)
  | .pause => some .pause
  | .resume => some .resume
  | .confirm => some .confirm
  | .skip => some .skip
  | .adjustTemp v => some (.adjust 0 v)
  | .adjustHumidity v => some (.adjust 1 v)
  | .adjustDuration v => some (.adjust 2 v)
  | .endHold => some .endHold
  | .abort => some .abort
  | .rotateLowest l => some (.rotateLowest l)
  | .verify l => some (.verify l)
  | .clearFaultOven l => some (.clearFault 0 l)
  | .clearFaultBoiler l => some (.clearFault 1 l)
  | .clearFaultLoad l => some (.clearFault 2 l)
  | .forceOn l => some (.force l 0)
  | .forceOff l => some (.force l 1)
  | .forceRelease l => some (.force l 2)
  | .patternAllOff => some (.pattern 0)
  | .patternWalk => some (.pattern 1)
  | .patternAlternate => some (.pattern 2)
  | .patternNone => some (.pattern 3)
  | .init => some .init
  | .resetRelease _ _ | .analogSample _ _ | .probeSample _ _ | .electrodeSample _ _ | .mainsSample _ | .zeroCross _
  | .slotEnd _ | .frameBoundary _ | .soloBaselineEnd _ | .supplyLoss | .doorSwitchChange _ | .doorDebounceExpiry
  | .loopUpdate | .sgcClockTick | .fillTimeout | .refillTimeout | .heatTimeout | .drainComplete
  | .soakDurationReached | .stepTick | .stepDurationExpiry | .holdTimeout | .linkByte _ | .gapTimeout
  | .responseComplete | .linkSilence | .badCheckFrame _ _ _ | .unknownRequest _ _ => .none

/-- The link listens and has not fallen silent: a frame is taken as it stands (R177, R185). -/
def Hears (s : State) : Prop := s.lif.rx ≠ .answering ∧ s.lif.silent = false

/-- What the link interface holds once a request has been answered (R175, R177, R185). -/
def Answered (r : Request) (result : ResultCode) (body : List Byte) (t : State) : Prop :=
  t.lif.rx = .answering ∧ t.lif.gap = false ∧ t.lif.silent = false
    ∧ t.lif.silence = (ovenMode t == .running)
    ∧ t.lif.response = some { code := requestCode r, result := result, body := body }

/-- The notice set and the pending definition are as they were. -/
def SameNotices (s t : State) : Prop :=
  t.lif.notices = s.lif.notices ∧ t.lif.pendingDef = s.lif.pendingDef

/-- The oven modes in which Table 10.5 lets a request through. -/
def modesOf : Request → List OvenMode
  | .readStatus | .readMeasurements | .readLoad _ | .readFrame | .readProgram _ | .readStep _ _ | .readScale
  | .readNotices | .clearNotices _ => [.standby, .running, .fault, .service]
  | .setLoad _ _ _ _ | .setSupply _ | .setPlacement _ | .setRotation _ _ _ | .setModeEntry _ | .setLoop _ _ _ _ _
  | .setWater _ => [.standby, .service]
  | .setScale _ _ _ => [.standby]
  | .defineProgram0 _ _ _ _ _ | .defineProgram1 _ _ _ | .retireProgram _ | .appendStep _ _ | .insertStep _ _ _
  | .replaceStep _ _ _ | .deleteStep _ _ | .setVariable _ _ _ => [.standby, .running, .fault]
  | .start _ => [.standby]
  | .pause | .resume | .confirm | .skip | .adjust _ _ | .endHold | .abort => [.running]
  | .rotateLowest _ | .verify _ => [.standby, .running, .service]
  | .clearFault _ _ | .init => [.standby, .running, .fault, .service]
  | .force _ _ | .pattern _ => [.service]

/-- The code of the frame that a command completes with a right check byte, where it completes one (R175, R178): a
request row, a received byte in CHECK, or a raw frame. -/
def completedCode (i : Instr) (s : State) : Option Byte :=
  match rowRequest i, i with
  | some r, _ => some (requestCode r)
  | .none, .linkByte b =>
    let code := s.lif.buffer.headD 0
    if s.lif.rx = .check ∧ b = checkByte code s.lif.buffer.tail then some code else .none
  | .none, .badCheckFrame code body check => if check = checkByte code body then some code else .none
  | .none, .unknownRequest code _ => some code
  | .none, _ => .none

/-- The bytes of a request frame (10.1, Table 10.8). -/
def frameBytes (r : Request) : List Byte :=
  0xA7 :: byteOf ((requestBody r).length + 1) :: requestCode r :: requestBody r
    ++ [checkByte (requestCode r) (requestBody r)]

/-- The bytes of a list taken one by one by LINK_BYTE. -/
def receive : List Byte → State → Host.Outcome State Fault Refusal
  | [], s => .next s
  | b :: bs, s =>
    match exec (.linkByte b) s with
    | .next t => receive bs t
    | .fault r => .fault r
    | .refused r => .refused r

/-- The part as it takes a request: the frame has arrived, and a silent link is heard again (R178, R185). -/
def heard (r : Request) (s : State) : State := validFrame (loadBuffer (requestCode r) (requestBody r) s)

/-- The number of a notice kind in Table 10.6. -/
def noticeIndex : Notice → Nat
  | .stepEnded => 0
  | .awaitConfirm => 1
  | .programEnded => 2
  | .doorPause => 3
  | .tankEmpty => 4
  | .loadFault => 5
  | .overload => 6
  | .boilerFault => 7
  | .scaleAdvise => 8
  | .scaleDerate => 9
  | .scaleLock => 10
  | .probeFault => 11
  | .sensorFault => 12
  | .faultMode => 13

/-- The measurement of a solo slot whose half-cycle records, from the first, are these pairs of voltage and leg current
(R26). -/
def measure (l : LoadId) (rs : List (Nat × Nat)) : Measurement :=
  (rs.zipIdx 1).foldl (fun m p => takeRecord p.2 p.1.1 (some p.1.2) false m) (newMeasurement l)

/-- The current that a half-cycle record gives of a leg (R10). -/
def legAmps (r : HalfCycle) : Leg → Option Nat
  | .a => some r.ampsA
  | .b => r.ampsB

/-- Whether a half-cycle record of a leg carries a set fault, of the voltage or of the leg's current (R27, R32). -/
def legFaulted (s : State) : Leg → Bool
  | .a => s.msu.voltage.fault || s.msu.ampsA.fault
  | .b => s.msu.voltage.fault || s.msu.ampsB.fault

/-- A leg's open measurement. -/
def legMeasurement (s : State) : Leg → Option Measurement
  | .a => s.ldt.measA
  | .b => s.ldt.measB

/-- A leg's measurement as the end of its slot finds it: with the record that the zero-cross closes (R26, R27). -/
def finalMeasurement (z : Crossing) (s : State) (g : Leg) : Option Measurement :=
  match legMeasurement s g, closedRecord z s with
  | some m, some r => some (takeRecord s.par.frame.half r.volts (legAmps r g) (legFaulted s g) m)
  | some m, .none => some m
  | .none, _ => .none

/-- Whether a measurement stands at the end of its slot: not voided, and every half-cycle counted (R27). -/
def stands (s : State) (m : Measurement) : Bool := !m.void && m.count == s.par.frame.inForce.slotHc

/-- Whether a leg in use is overloaded at a slot's end (R32): by the record that the zero-cross closes, with its faults
clear, its power lies above 110 % of the budget in force. -/
def legOverloaded (z : Crossing) (s : State) (g : Leg) : Bool :=
  match (closedRecord z s).bind fun r => (legAmps r g).map fun i => r.volts * i with
  | .none => false
  | some vi =>
    (g == .a || s.par.frame.inForce.connection == .dual) && !legFaulted s g
      && decide (s.par.frame.inForce.budget g * 110 / 100 < (vi + 5000) / 10000)

/-- The scale account after a drain completion is reported to it (R112): the descale credit, the mark of a rinse soak, or no
change. -/
def drainJudged (s : State) : Sca :=
  let soaked := s.sgc.soakedS.getD 0
  if s.sgc.content = .descaler ∧ 1500 ≤ soaked then { s.sca with scaleMg := 0, stage := .clear }
  else if s.sgc.content = .water ∧ s.sgc.purpose = .rinse ∧ 300 ≤ soaked then { s.sca with rinseSoaked := true }
  else s.sca

/-- The scale account after a fill start is reported to it (R111). -/
def fillNoted (c : FillContent) (a : Sca) : Sca :=
  match c with
  | .water => a
  | .descaler => { a with rinseDue := true, rinseSoaked := false }

/-- The scale account after a rinse end is reported to it (R113). -/
def rinseEnded (a : Sca) : Sca := if a.rinseSoaked then { a with rinseDue := false, rinseSoaked := false } else a

/-- The power on a leg that the loads before `l` in the priority order take in a slot (R51, R53). -/
def earlierSum (f : InForce) (order : List LoadId) (t : Slot) (l : LoadId) : Nat :=
  (allLoads.map fun k =>
    if placedOn f t (f.leg.get l) k && decide (order.idxOf k < order.idxOf l) then f.charge.get k else 0).sum

/-- The loads of a leg that the verification pass gives a solo slot, in priority order: eligible, due, and with a charge
that fits the leg's capacity (R52). -/
def soloClaims (s : State) (g : Leg) : List LoadId :=
  (priorityOrder s.par.lists).filter fun l =>
    eligible s l && (load s l).verifyDue && (valuesNow s).leg.get l == g
      && decide ((valuesNow s).charge.get l ≤ (valuesNow s).cap g)

/-- The channel that an ANALOG_SAMPLE samples. -/
def inputChannel : AnalogInput → Channel
  | .cavity => .cavity
  | .boiler => .boiler
  | .moisture => .moisture

/-- The value that a valid sample leaves in a channel whose fault is clear (R3). -/
def filteredAfter (a : Analog) (raw : Int) : Int :=
  match a.filtered with
  | .none => raw
  | some f => f + (raw - f).tdiv 4

/-! ## Editing and recomputation -/

/-- Four variable entries that a part of DEFINE_PROGRAM may not carry (R131, R181): a presence byte other than 0 and 1, or a
present variable outside min ≤ value ≤ max. -/
def VarsRefused (v : RawVars) : Prop :=
  ∃ e, e ∈ [v.v0, v.v1, v.v2, v.v3] ∧
    (1 < e.presence.toNat ∨ (e.presence = 1 ∧ (e.value.toNat < e.min.toNat ∨ e.max.toNat < e.value.toNat)))

/-- The result that refuses a step record for a program, in the order of the checks (R124, R125, R133 to R135). -/
def RecordRefused (s : State) (p : Program) (r : RawStep) (e : ResultCode) : Prop :=
  (namesAbsent p.vars r = true ∧ e = .noSuch) ∨
    (namesAbsent p.vars r = false ∧ isBoilerKind r = true ∧ e = .protect) ∨
    (namesAbsent p.vars r = false ∧ isBoilerKind r = false ∧ userStepOf s.clc.table r = .none ∧ e = .range)

/-- The position test refuses an edit at a position (R129): the slot is running, and the position does not lie behind the
current one, or no step is current. -/
def PositionRefused (s : State) (slot pos : Nat) : Prop :=
  isRunningSlot s slot = true ∧ (hasCurrent s = true → pos ≤ s.run.position.getD 0)

/-- Whether an expression, where it is present, names a variable. -/
def namesVar (i : Fin 8) (e : Option Expr) : Bool := (e.map fun e => e.names i).getD false

/-- One latched quantity after a change of a variable (R158): evaluated anew where its expression names the variable, and
otherwise as it was. -/
def Reevaluated {α : Type} (i : Fin 8) (e : Option Expr) (value old new : Option α) : Prop :=
  (namesVar i e = true → new = value) ∧ (namesVar i e = false → new = old)

/-- The current CLIMATE step has been recomputed for a changed variable (R158): its quantities, the mark CLAMPED, and the
setpoints of the climate that stands. -/
structure Recomputed (i : Fin 8) (slot : Nat) (c : ClimateStep) (s t : State) : Prop where
  temp : Reevaluated i c.temp ((evalStep t slot c).temp.map Prod.fst) s.run.latched.temp t.run.latched.temp
  humidity : Reevaluated i c.humidity ((evalStep t slot c).humidity.map Prod.fst) s.run.latched.humidity
    t.run.latched.humidity
  duration : Reevaluated i c.duration ((evalStep t slot c).duration.map fun v => v.1.toNat) s.run.latched.duration
    t.run.latched.duration
  core : Reevaluated i c.core ((evalStep t slot c).core.map Prod.fst) s.run.latched.core t.run.latched.core
  marks : t.run.marks = { s.run.marks with clamped := s.run.marks.clamped
    || (namesVar i c.temp && ((evalStep t slot c).temp.map Prod.snd).getD false)
    || (namesVar i c.humidity && ((evalStep t slot c).humidity.map Prod.snd).getD false)
    || (namesVar i c.duration && ((evalStep t slot c).duration.map Prod.snd).getD false)
    || (namesVar i c.core && ((evalStep t slot c).core.map Prod.snd).getD false) }
  run : t.run = { s.run with latched := t.run.latched, marks := t.run.marks }
  setpoint : s.clc.climate.kind ≠ .none → t.clc.climate.setpoint
    = if t.run.latched.temp = s.run.latched.temp then s.clc.climate.setpoint else t.run.latched.temp
  humSet : s.clc.climate.kind ≠ .none → t.clc.climate.humSet
    = if t.run.latched.humidity = s.run.latched.humidity then s.clc.climate.humSet else t.run.latched.humidity
  climate : t.clc = { s.clc with climate :=
    { s.clc.climate with setpoint := t.clc.climate.setpoint, humSet := t.clc.climate.humSet } }

/-! ## The laws of the records -/

/-- A run has reached ENDING with this cause, or has already passed through it to IDLE (R161). -/
def EndsWith (c : RunOutcome) (t : State) : Prop :=
  (t.run.state = .ending ∧ t.run.endingCause = some c) ∨ (t.run.state = .idle ∧ t.run.outcome = some c)

/-- A step of a user program (Table 7.2). -/
def isUserStep : Step → Bool
  | .climate _ | .confirm _ => true
  | .boilerFill _ | .boilerSoak _ _ | .boilerDrain => false

/-- The next position of the running program holds no boiler step. -/
def NextIsUserStep (s : State) : Prop :=
  ∀ st, stepAt s (s.run.slot.getD 0) (s.run.position.getD 0 + 1) = some st → isUserStep st = true

/-- The run has gone on from the step at its position (R150 steps 4 and 5): to the next position, to HOLDING at the
program's keep-warm value, or to its end with COMPLETED. -/
structure WentOn (s t : State) : Prop where
  next : s.run.position.getD 0 + 1 < stepCount s (s.run.slot.getD 0) →
    t.run.position = some (s.run.position.getD 0 + 1) ∧ t.run.elapsedS = 0
      ∧ (t.run.state = .active ∨ t.run.state = .awaitConfirm)
  hold : stepCount s (s.run.slot.getD 0) ≤ s.run.position.getD 0 + 1 → ∀ k, runKeepWarm s = some k →
    t.run.state = .holding ∧ t.run.holdS = 0 ∧ t.clc.climate.kind = .hold ∧ t.clc.climate.setpoint = some k
  ending : stepCount s (s.run.slot.getD 0) ≤ s.run.position.getD 0 + 1 → runKeepWarm s = .none →
    EndsWith .completed t

/-- The current step has ended with a cause (R150): the end is recorded and raised, and the run waits for CONFIRM or goes
on. -/
structure StepEnded (st : Step) (cause : EndCause) (marks : Marks) (s t : State) : Prop where
  recorded : t.run.lastEnd = some { position := s.run.position.getD 0, cause := cause, marks := marks }
  raised : t.lif.notices.stepEnded = true
  waits : pausesAtEnd st = true → t.run.state = .awaitConfirm ∧ t.run.awaiting = some .next
    ∧ t.run.position = s.run.position ∧ t.lif.notices.awaitConfirm = true
  goes : pausesAtEnd st = false → WentOn s t

/-- The firing law (R19, R20, R40, R43, R44, R57): a load that is on carries no mask reason, is not withdrawn and is
placed in the current slot of a running frame; no leg of a slot holds more than its capacity in force; a solo slot holds
its load and no other load of its leg. -/
structure FiringLaw (s : State) : Prop where
  on_allowed : ∀ l, (load s l).on = true →
    (load s l).mask.isEmpty = true ∧ s.par.frame.withdrawn.get l = false ∧ s.par.frame.state = .firing
      ∧ (slotOf s.par.frame.grid s.par.frame.slot).placed.get l = true
  capacity : ∀ n g, legSum s.par.frame.inForce (slotOf s.par.frame.grid n) g ≤ s.par.frame.inForce.cap g
  solo : ∀ n g l, soloOn (slotOf s.par.frame.grid n) g = some l →
    ∀ k, placedOn s.par.frame.inForce (slotOf s.par.frame.grid n) g k = (k == l)

/-- The solo law (R25 to R27, R44): a solo slot's load is on only past half-cycle 4; an open measurement is of its leg's
solo load; and while it is not voided that load may fire, and is on past half-cycle 4. -/
structure SoloLaw (s : State) : Prop where
  baseline : ∀ l, (load s l).on = true → isSolo (slotOf s.par.frame.grid s.par.frame.slot) l = true → 4 < s.par.frame.half
  held : ∀ g m, legMeasurement s g = some m → soloOn (slotOf s.par.frame.grid s.par.frame.slot) g = some m.load
  standing : ∀ g m, legMeasurement s g = some m → m.void = false →
    (load s m.load).mask.isEmpty = true ∧ s.par.frame.withdrawn.get m.load = false
  fired : ∀ g m, legMeasurement s g = some m → m.void = false → s.par.frame.state = .firing → 4 < s.par.frame.half →
    (load s m.load).on = true

/-- The pause law (R153): every load carries PAUSE exactly while the pause set is not empty, and the set holds only
reasons that the run state takes. -/
structure PauseLaw (s : State) : Prop where
  masks : ∀ l, (load s l).mask.pause = !s.run.pause.isEmpty
  taken : ∀ r, s.run.pause.has r = true → takesPause s.run.state r = true

/-- The boiler law (R82, R83, R85, R88 to R90, R93, R95, Table 5.2): the outputs and reasons of the boiler state, and what a
heated boiler may hold and be asked. -/
structure BoilerLaw (s : State) : Prop where
  level : (load s .boiler).mask.level = levelIn s.sgc.state
  dryfire : (load s .boiler).mask.dryfire = (s.sgc.state == .fault)
  feed : s.ldt.aux.feedPump = (s.sgc.state == .filling || s.sgc.state == .refilling)
  drain : s.ldt.aux.drainPump = (s.sgc.state == .draining)
  prior : s.sgc.prior.isSome = (s.sgc.state == .refilling)
  thermostat : s.sgc.thermostat = true → holdRuns s.sgc.state = true ∨ s.sgc.state = .soaking
  served : s.sgc.request = .none → s.sgc.served = false
  steaming : s.sgc.state = .steaming → s.sgc.content = .water ∧ s.sca.stage ≠ .lock ∧ s.sca.rinseDue = false
  hot : s.sgc.state = .heating ∨ s.sgc.state = .ready ∨ s.sgc.state = .steaming → s.sgc.request = .none
  pumping : s.sgc.state = .filling ∨ s.sgc.state = .refilling → s.sgc.served = false ∧ s.sgc.request ≠ .drain
  refilling : s.sgc.state = .refilling → ∀ c, s.sgc.request ≠ .fill c

/-- The scale law (R105, R109, Table 6.1): the stage is the one into which the account falls, and SCALE stands on BOILER
exactly while the stage is LOCK and the purpose COOK or IDLE. -/
structure ScaleLaw (s : State) : Prop where
  stage : s.sca.stage = stageOf s.sca
  thresholds : 1 ≤ s.sca.advise ∧ s.sca.advise < s.sca.derate ∧ s.sca.derate < s.sca.lock ∧ s.sca.lock ≤ 60000
  ranges : s.sca.scaleMg ≤ 65535 ∧ s.sca.hardness ≤ 1000 ∧ 50 ≤ s.sca.fillMl ∧ s.sca.fillMl ≤ 400
  scale : (load s .boiler).mask.scale
    = (s.sca.stage == .lock && (s.sgc.purpose == .cook || s.sgc.purpose == .idle))

/-- The list law (R47, R48): every load stands exactly once, in the list of its own class, and the placement order is a
permutation of the sixteen slots. -/
structure ListLaw (s : State) : Prop where
  own_class : ∀ l, (load s l).cls ≤ 3
  once : ∀ c, c ≤ 3 → ∀ l, (s.par.lists.get c).count l = if (load s l).cls = c then 1 else 0
  placement : s.par.placement.Perm (List.range 16)

/-- The configuration law (R38, R62, R77): every configured value lies in its range. -/
structure ConfigLaw (s : State) : Prop where
  budgets : 1000 ≤ s.par.supply.budgetA ∧ s.par.supply.budgetA ≤ 7400
    ∧ 1000 ≤ s.par.supply.budgetB ∧ s.par.supply.budgetB ≤ 7400
  reserves : s.par.supply.reserveA ≤ 500 ∧ s.par.supply.reserveB ≤ 500
  slotHc : 20 ≤ s.par.supply.slotHc ∧ s.par.supply.slotHc ≤ 250
  loads : ∀ l, 100 ≤ (load s l).ratedW ∧ (load s l).ratedW ≤ 3000
  entries : ∀ i : Fin 8, (s.clc.table[i]).range.isSome = (s.clc.table[i]).tempLoop
    ∧ (s.clc.table[i]).top ≤ 100 ∧ (s.clc.table[i]).bottom ≤ 100 ∧ (s.clc.table[i]).ring ≤ 100
    ∧ (s.clc.table[i]).grill ≤ 100 ∧ (s.clc.table[i]).boiler ≤ 100
  ranges : ∀ (i : Fin 8) r, (s.clc.table[i]).range = some r → 300 ≤ r.1 ∧ r.1 ≤ r.2 ∧ r.2 ≤ 2500
  loop : s.clc.loop.ks ≤ 50 ∧ 2 ≤ s.clc.loop.period ∧ s.clc.loop.period ≤ 16 ∧ s.clc.loop.band ≤ 20

/-- A present variable lies in its own range (R123). -/
def Variable.ok (v : Variable) : Prop := v.min ≤ v.value ∧ v.value ≤ v.max ∧ v.max ≤ 65535

/-- The record numbers that all user programs reference, in slot order. -/
def allRecords (s : State) : List Nat := s.pst.programs.toList.flatMap fun p => (p.map fun p => p.steps).getD []

/-- The store law (R122, R123, R124, R128): the pool's records are free or referenced exactly once, lists hold at most 20
steps of user kinds, tags are distinct, and every present variable lies in its range. -/
structure StoreLaw (s : State) : Prop where
  once : (allRecords s).Nodup
  referenced : ∀ n, n ∈ allRecords s ↔ ∃ st, s.pst.pool[n]? = some (some st)
  kinds : ∀ (n : Nat) (st : Step), s.pst.pool[n]? = some (some st) → isUserStep st = true
  lengths : ∀ slot p, userProgram s slot = some p → p.steps.length ≤ 20
  tags : ∀ a b p q, userProgram s a = some p → userProgram s b = some q → p.tag = q.tag → a = b
  tagged : ∀ slot p, userProgram s slot = some p → 1 ≤ p.tag
  ranges : ∀ slot p, userProgram s slot = some p → ∀ (i : Fin 8) v, p.vars[i] = some v → v.ok
  keepWarm : ∀ slot p k, userProgram s slot = some p → p.keepWarm = some k → 600 ≤ k ∧ k ≤ 900
  part0 : ∀ d, s.lif.pendingDef = some d →
    1 ≤ d.tag ∧ (∀ v, some v ∈ d.vars → v.ok) ∧ (∀ k, d.keepWarm = some k → 600 ≤ k ∧ k ≤ 900)

/-- The door and fault law (R23, R167 to R171, Table 2.3): DOOR stands on the four elements exactly while the door is
OPEN and never on BOILER, the fan is off then, LAMP follows the door and the mode, and FAULT_MODE and COOL_FAN follow
the fault latch. -/
structure DoorLaw (s : State) : Prop where
  door : ∀ l, (load s l).mask.door = (s.dlu.door == .opened && l != .boiler)
  fan : s.dlu.door = .opened → s.ldt.aux.fan = .off
  lamp : s.ldt.aux.lamp = (s.dlu.door == .opened || ovenMode s == .running)
  fault : ∀ l, (load s l).mask.faultMode = s.dlu.latch
  cool : s.ldt.aux.coolFan = s.dlu.latch
  causes : s.dlu.latch = (s.dlu.causeLimit || s.dlu.causeSensor)

/-- The link law (R175 to R177, R185, Table 10.1). -/
structure LinkLaw (s : State) : Prop where
  response : s.lif.response.isSome = (s.lif.rx == .answering)
  gap : s.lif.gap = (s.lif.rx == .length || s.lif.rx == .body || s.lif.rx == .check)
  length : s.lif.rx = .length → s.lif.buffer = []
  body : s.lif.rx = .body → s.lif.buffer.length < s.lif.length ∧ s.lif.length ≤ 49
  check : s.lif.rx = .check → s.lif.buffer.length = s.lif.length ∧ 1 ≤ s.lif.length ∧ s.lif.length ≤ 49
  silence : s.lif.silence = (ovenMode s == .running && !s.lif.silent)
  silent : s.lif.silent = true → ovenMode s = .running

/-- The mask law (Table 2.3): SUPPLY stands on every load exactly while the frame is HALTED, and HEALTH on a load exactly
while its health is OPEN or HIGH. -/
structure MaskLaw (s : State) : Prop where
  supply : ∀ l, (load s l).mask.supply = (s.par.frame.state == .halted)
  health : ∀ l, (load s l).mask.health = ((load s l).health == .opened || (load s l).health == .high)

/-- The range law (R4, R8, R18, R68, R69, R72, R73, R87, R88, R96, R97, R147, R160): every demand and every count lies in
the range that its table gives. -/
structure RangeLaw (s : State) : Prop where
  demands : ∀ l, (load s l).demand ≤ 16
  entry : s.clc.climate.entry.top ≤ 100 ∧ s.clc.climate.entry.bottom ≤ 100 ∧ s.clc.climate.entry.ring ≤ 100
    ∧ s.clc.climate.entry.grill ≤ 100 ∧ s.clc.climate.entry.boiler ≤ 100
  loops : s.clc.heat ≤ 1000 ∧ s.clc.integral ≤ 16000 ∧ s.clc.humid ≤ 1000
  steam : s.sgc.share ≤ 16 ∧ s.sgc.humQuanta ≤ 16 ∧ s.sgc.demand ≤ 16
  boiler : s.sgc.fillTimer ≤ 90 ∧ s.sgc.heatCount ≤ 600 ∧ (∀ n, s.sgc.drainCount = some n → n ≤ 40)
    ∧ (∀ n, s.sgc.soakedS = some n → n ≤ 65535)
  run : s.run.elapsedS ≤ 65535 ∧ s.run.totalS ≤ 65535 ∧ s.run.holdS ≤ 3600
  runs : ∀ c, (channel c s.msu).badRun ≤ 3 ∧ (channel c s.msu).goodRun ≤ 3

/-- The run record law (Table 8.1, Table 8.2, R160, R161, R172): what is present in which run state. -/
structure RunLaw (s : State) : Prop where
  awaiting : s.run.awaiting.isSome = (s.run.state == .awaitConfirm)
  ending : s.run.endingCause.isSome = (s.run.state == .ending)
  outcome : s.run.state ≠ .idle → s.run.outcome = .none
  latched : hasCurrent s = false → s.run.latched = {}
  slot : s.run.state ≠ .idle → s.run.slot.isSome = true ∧ s.run.position.isSome = true
  hold : s.run.holdS ≤ 3600
  climate : (s.clc.climate.kind = .hold ↔ s.run.state = .holding)
    ∧ (s.run.state = .idle ∨ s.run.state = .ending → s.clc.climate.kind = .none)
  timer : s.clc.loopTimer.isSome = (s.clc.climate.kind != .none)
  service : s.svc.service = true → s.run.state = .idle

/-- Every law of the records at once. -/
structure Lawful (s : State) : Prop where
  firing : FiringLaw s
  solo : SoloLaw s
  pause : PauseLaw s
  boiler : BoilerLaw s
  scale : ScaleLaw s
  list : ListLaw s
  config : ConfigLaw s
  store : StoreLaw s
  door : DoorLaw s
  link : LinkLaw s
  mask : MaskLaw s
  range : RangeLaw s
  run : RunLaw s

end Sys2Proof.Machine
end

