-- ==== Sys2Proof/Certificates/Slice0/Obligations.lean ====
section
/-!
DEFINITION. The statements for the provers, in the order of OBLIGATIONS.json: the queue and the release from reset, the
laws that every step keeps, the link, the requests by owning block, and the events.
-/

open Sys2Proof Sys2Proof.Machine

/-! ## The queue, completion and reset -/

/-- A step with a command at the front of the queue is `exec` of that command with the queue's rest. The queue is the
model's own (logs 1 and 28). -/
def Obligations.FrontCommandIsExecuted : Prop :=
  ∀ (i : Instr) (rest : List Instr) (s : State),
    s.pending = i :: rest →
    step s = exec i { s with pending := rest }

/-- Every command is answered with a next state. That it leaves the queue of waiting commands alone is the model's choice
(logs 6 and 28), and so is the answer of a row that is not due (log 3). -/
def Obligations.EveryCommandCompletes : Prop :=
  ∀ (i : Instr) (s : State),
    ∃ t, exec i s = .next t ∧ t.pending = s.pending

/-- What release from reset leaves (R16, R36, R60, R79, R103, R120, R141, R165, R174, R187, R188; Tables 2.2, 3.5, 4.2 and
4.9). That the queue of commands stays is the model's choice (log 6). -/
def Obligations.ReleaseLeavesTheResetValues : Prop :=
  ∀ (strap : Bool) (door : DoorLevel) (s : State),
    ∃ t, exec (.resetRelease strap door) s = .next t ∧ t.pending = s.pending ∧
      (ovenMode t = if strap then .service else .standby) ∧
      (∀ c, channel c t.msu = { raw := 0, filtered := .none, fault := false, badRun := 0, goodRun := 0 }) ∧
      (t.msu.probe.changeRun = 0 ∧ t.msu.low.changeRun = 0 ∧ t.msu.high.changeRun = 0 ∧ t.msu.latest = .none) ∧
      (∀ l, (load t l).demand = 0 ∧ (load t l).health = .untested ∧ (load t l).measuredW = .none
        ∧ (load t l).verifyDue = true ∧ (load t l).served = 0 ∧ (load t l).shortfall = 0 ∧ (load t l).on = false
        ∧ (load t l).mask = if l = .boiler then { level := true } else {}) ∧
      ((load t .top).ratedW = 1200 ∧ (load t .bottom).ratedW = 1100 ∧ (load t .ring).ratedW = 2000
        ∧ (load t .grill).ratedW = 2000 ∧ (load t .boiler).ratedW = 1800) ∧
      ((load t .top).cls = 2 ∧ (load t .bottom).cls = 2 ∧ (load t .ring).cls = 2 ∧ (load t .grill).cls = 2
        ∧ (load t .boiler).cls = 1) ∧
      ((load t .top).leg = .a ∧ (load t .bottom).leg = .b ∧ (load t .ring).leg = .a ∧ (load t .grill).leg = .b
        ∧ (load t .boiler).leg = .b) ∧
      t.clc.table = #v[
        { top := 0, bottom := 0, ring := 0, grill := 0, boiler := 0, fan := .off, tempLoop := false, humLoop := false
          range := .none },
        { top := 0, bottom := 0, ring := 100, grill := 0, boiler := 0, fan := .high, tempLoop := true, humLoop := false
          range := some (300, 2500) },
        { top := 60, bottom := 100, ring := 0, grill := 0, boiler := 0, fan := .off, tempLoop := true, humLoop := false
          range := some (300, 2500) },
        { top := 0, bottom := 100, ring := 40, grill := 0, boiler := 0, fan := .low, tempLoop := true, humLoop := false
          range := some (300, 2500) },
        { top := 0, bottom := 0, ring := 0, grill := 100, boiler := 0, fan := .off, tempLoop := true, humLoop := false
          range := some (1500, 2500) },
        { top := 0, bottom := 0, ring := 0, grill := 100, boiler := 0, fan := .low, tempLoop := true, humLoop := false
          range := some (1000, 2300) },
        { top := 0, bottom := 0, ring := 0, grill := 0, boiler := 100, fan := .low, tempLoop := true, humLoop := false
          range := some (350, 1000) },
        { top := 0, bottom := 0, ring := 100, grill := 0, boiler := 0, fan := .high, tempLoop := true, humLoop := true
          range := some (500, 2300) }] ∧
      (t.ldt.aux = { fan := .off, lamp := false, feedPump := false, drainPump := false, vent := false, coolFan := false }
        ∧ t.ldt.measA = .none ∧ t.ldt.measB = .none) ∧
      (t.par.supply =
          { connection := .dual, budgetA := 3500, budgetB := 3500, reserveA := 150, reserveB := 0, slotHc := 100 }
        ∧ t.par.placement = [0, 8, 4, 12, 2, 10, 6, 14, 1, 9, 5, 13, 3, 11, 7, 15]
        ∧ t.par.lists = { c0 := [], c1 := [.boiler], c2 := [.top, .bottom, .ring, .grill], c3 := [] }
        ∧ t.par.policies = { c0 := .fixed, c1 := .fixed, c2 := .rotating, c3 := .fixed }
        ∧ t.par.frame.state = .waiting ∧ t.par.frame.grid = emptyGrid
        ∧ ∀ l, t.par.frame.withdrawn.get l = false) ∧
      (t.clc.loop = { kp := 40, ki := 6, ks := 8, period := 4, band := 5 } ∧ t.clc.climate.kind = .none
        ∧ t.clc.heat = 0 ∧ t.clc.integral = 0 ∧ t.clc.humid = 0 ∧ t.clc.loopTimer = .none
        ∧ t.clc.demands = { top := 0, bottom := 0, ring := 0, grill := 0 }) ∧
      (t.sgc.state = .empty ∧ t.sgc.content = .none ∧ t.sgc.purpose = .idle ∧ t.sgc.soakedS = .none
        ∧ t.sgc.tankEmpty = false ∧ t.sgc.request = .none ∧ t.sgc.served = false ∧ t.sgc.lookAhead = false
        ∧ t.sgc.share = 0 ∧ t.sgc.humQuanta = 0 ∧ t.sgc.needsSteam = false ∧ t.sgc.thermostat = false
        ∧ t.sgc.drainCount = .none ∧ t.sgc.demand = 0) ∧
      t.sca = { hardness := 180, fillMl := 150, advise := 3000, derate := 4500, lock := 6000, scaleMg := 0,
                stage := .clear, rinseDue := false, rinseSoaked := false, restored := false } ∧
      ((∀ slot, userProgram t slot = .none) ∧ freeCount t = 96) ∧
      t.run = { slot := .none, state := .idle, position := .none, awaiting := .none, pause := {}, elapsedS := 0,
                totalS := 0, holdS := 0, latched := {}, marks := {}, degraded := false, lastEnd := .none,
                endingCause := .none, outcome := .none } ∧
      t.dlu = { door := .unsettled, input := door, debounce := true, latch := false, causeLimit := false,
                causeSensor := false } ∧
      (t.lif.rx = .hunt ∧ t.lif.buffer = [] ∧ t.lif.gap = false ∧ t.lif.notices = {} ∧ t.lif.pendingDef = .none
        ∧ t.lif.silence = false ∧ t.lif.silent = false ∧ t.lif.response = .none) ∧
      ((∀ l, t.svc.forcing.get l = .none) ∧ t.svc.pattern = .none)

/-- Every law of the records holds after release from reset, whatever the strap and the door read. -/
def Obligations.LawsHoldAfterRelease : Prop :=
  Lawful State.reset ∧
    ∀ (strap : Bool) (door : DoorLevel) (s : State),
      ∃ t, exec (.resetRelease strap door) s = .next t ∧ Lawful t

/-! ## The laws that every step keeps -/

/-- The firing law is kept, and so no leg ever carries more than its capacity in force (R19, R20, R40, R43, R44, R52, R53,
R57). The solo law is kept: a solo slot's load is on only past half-cycle 4, and the load of a measurement that is not voided
is on then (R25 to R27, R44; the measurement of a load withdrawn before its slot opens is void, log 31). -/
def Obligations.FiringLawIsKept : Prop :=
  ∀ (s t : State), step s = .next t →
    (FiringLaw s → FiringLaw t ∧ ∀ g,
      (allLoads.map fun l =>
        if (load t l).on = true ∧ t.par.frame.inForce.leg.get l = g then t.par.frame.inForce.charge.get l else 0).sum
        ≤ t.par.frame.inForce.cap g) ∧
    (SoloLaw s → SoloLaw t)

/-- PAUSE follows the pause set (R153), SUPPLY and HEALTH follow the frame and the loads' health (Table 2.3), and the door's
and the fault latch's reasons and outputs follow the door and the latch (R23, R76, R167 to R171). The firing and solo laws
(FiringLawIsKept) say that a load whose measurement is not voided carries no HEALTH, and that two legs measure two loads. -/
def Obligations.MaskAndDoorLawsAreKept : Prop :=
  ∀ (s t : State), step s = .next t →
    (PauseLaw s → PauseLaw t) ∧ (FiringLaw s → SoloLaw s → MaskLaw s → MaskLaw t) ∧ (DoorLaw s → DoorLaw t)

/-- The boiler law is kept (R82, R83, R85, R88 to R90, R93, R95), and the scale law: the stage is always the one into which
the account falls (R105), and SCALE follows it (R109). -/
def Obligations.BoilerAndScaleLawsAreKept : Prop :=
  ∀ (s t : State), step s = .next t → (BoilerLaw s → BoilerLaw t) ∧ (ScaleLaw s → ScaleLaw t)

/-- The rotation lists, the placement order and every configured value stay legal (R34, R38, R47, R48, R62, R63, R77), and so
does the program store (R122 to R124, R128). -/
def Obligations.StoredValuesStayLegal : Prop :=
  ∀ (s t : State), step s = .next t →
    (ListLaw s → ListLaw t) ∧ (ConfigLaw s → ConfigLaw t) ∧ (StoreLaw s → StoreLaw t)

/-- The link law (R175 to R177, R185) and the run record law (Table 8.1, R160, R161) are kept, and every demand and every
count stays in its range (R18, R68, R69, R72, R73, R91, R96, R147). -/
def Obligations.LinkRunAndRangeLawsAreKept : Prop :=
  ∀ (s t : State), step s = .next t →
    (LinkLaw s → LinkLaw t) ∧ (RunLaw s → RunLaw t) ∧ (RangeLaw s → ConfigLaw s → RangeLaw t)

/-! ## The link -/

/-- A request's code and body, as the host lays them out, are read back as that request (R178, Table 10.4). -/
def Obligations.RequestsDecodeToThemselves : Prop :=
  ∀ (r : Request), requestLengthOk r = true → decodeRequest (requestCode r) (requestBody r) = .request r

/-- A frame that arrives byte by byte does what its row does (10.1, R175). That a row is a whole frame is the model's
choice (log 5). -/
def Obligations.FramesArriveByteByByte : Prop :=
  (∀ (i : Instr) (r : Request) (s : State),
    i.wf = true → rowRequest i = some r → s.lif.rx = .hunt → receive (frameBytes r) s = exec i s) ∧
  ∀ (code check : Byte) (body : List Byte) (s : State),
    body.length ≤ 48 → s.lif.rx = .hunt →
    receive (0xA7 :: byteOf (body.length + 1) :: code :: body ++ [check]) s = exec (.badCheckFrame code body check) s

/-- What a received byte does in each receive state (R175). -/
def Obligations.LinkBytesDriveTheReceiver : Prop :=
  ∀ (b : Byte) (s : State),
    ∃ t, exec (.linkByte b) s = .next t ∧
      (s.lif.rx = .hunt → b ≠ 0xA7 → t = s) ∧
      (s.lif.rx = .hunt → b = 0xA7 →
        t = { s with lif := { s.lif with rx := .length, buffer := [], gap := true } }) ∧
      (s.lif.rx = .length → 1 ≤ b.toNat → b.toNat ≤ 49 →
        t = { s with lif := { s.lif with rx := .body, length := b.toNat, gap := true } }) ∧
      (s.lif.rx = .length → b.toNat = 0 ∨ 49 < b.toNat →
        t = { s with lif := { s.lif with rx := .hunt, gap := false } }) ∧
      (s.lif.rx = .body → s.lif.buffer.length + 1 < s.lif.length →
        t = { s with lif := { s.lif with buffer := s.lif.buffer ++ [b], gap := true } }) ∧
      (s.lif.rx = .body → s.lif.length ≤ s.lif.buffer.length + 1 →
        t = { s with lif := { s.lif with rx := .check, buffer := s.lif.buffer ++ [b], gap := true } }) ∧
      (s.lif.rx = .check → t.lif.rx = .answering ∧ t.lif.gap = false
        ∧ ∃ resp, t.lif.response = some resp ∧ resp.code = s.lif.buffer.headD 0) ∧
      (s.lif.rx = .answering → t = s)

/-- While the part is ANSWERING every byte and every frame is discarded (R177); the gap timer's expiry discards a partial
frame (R176), and the end of a response gives the turn back (R177). The clause on rows rests on log 5. -/
def Obligations.TheTurnAndTheGap : Prop :=
  ∀ (s : State),
    (s.lif.rx = .answering →
      (∀ b, exec (.linkByte b) s = .next s) ∧
      (∀ i r, rowRequest i = some r → exec i s = .next s) ∧
      (∀ code body check, exec (.badCheckFrame code body check) s = .next s) ∧
      (∀ code body, exec (.unknownRequest code body) s = .next s)) ∧
    (s.lif.gap = true →
      ∃ t, exec .gapTimeout s = .next t ∧ t = { s with lif := { s.lif with rx := .hunt, buffer := [], gap := false } }) ∧
    (s.lif.rx = .answering →
      ∃ t, exec .responseComplete s = .next t
        ∧ t = { s with lif := { s.lif with rx := .hunt, response := .none } })

/-- The oven mode that stands when a request is taken decides whether it passes the MODE check (R180, Table 10.5). -/
def Obligations.TheModeDecides : Prop :=
  ∀ (i : Instr) (r : Request) (s : State),
    rowRequest i = some r → requestLengthOk r = true → s.lif.rx ≠ .answering →
    (ovenMode (heard r s) ∉ modesOf r →
      ∃ t, exec i s = .next t ∧ ChangesOnly [.lif] (heard r s) t ∧ SameNotices (heard r s) t
        ∧ t.lif.response = some { code := requestCode r, result := .mode, body := [] }) ∧
    (ovenMode (heard r s) ∈ modesOf r →
      ∃ t resp, exec i s = .next t ∧ t.lif.response = some resp ∧ resp.result ≠ .mode)

/-- A refusal has an empty body and leaves every record as it was, apart from the link's own (R177, R178); a frame with a
wrong check byte is no valid frame and is answered with CHECK, and an unknown code with UNKNOWN. -/
def Obligations.RefusalsChangeNothing : Prop :=
  (∀ (i : Instr) (r : Request) (s : State),
    rowRequest i = some r → s.lif.rx ≠ .answering →
    ∃ t resp, exec i s = .next t ∧ t.lif.rx = .answering ∧ t.lif.gap = false ∧ t.lif.response = some resp ∧
      resp.code = requestCode r ∧
      (resp.result ≠ .ok → resp.body = [] ∧ ChangesOnly [.lif] (heard r s) t ∧ SameNotices (heard r s) t)) ∧
  (∀ (code check : Byte) (body : List Byte) (s : State),
    check ≠ checkByte code body → s.lif.rx ≠ .answering →
    ∃ t, exec (.badCheckFrame code body check) s = .next t ∧ ChangesOnly [.lif] s t ∧ SameNotices s t ∧
      t.lif.rx = .answering ∧ t.lif.silence = s.lif.silence ∧ t.lif.silent = s.lif.silent ∧
      t.lif.response = some { code := code, result := .check, body := [] }) ∧
  (∀ (code : Byte) (body : List Byte) (s : State),
    code ∉ knownCodes → Hears s →
    ∃ t, exec (.unknownRequest code body) s = .next t ∧ ChangesOnly [.lif] s t ∧ SameNotices s t ∧
      t.lif.rx = .answering ∧ t.lif.response = some { code := code, result := .unknown, body := [] })

/-- Link silence adds LINK where the run takes it (R153, R185), and the next valid frame of a silent link removes LINK before
its request is carried out. -/
def Obligations.SilenceAddsAndFramesRemoveLink : Prop :=
  (∀ (s : State), s.lif.silence = true → PauseLaw s →
    ∃ t, exec .linkSilence s = .next t ∧ t.lif.silence = false ∧ t.lif.silent = true ∧
      SameNotices s t ∧ ChangesOnly [.lif, .run, .ldt, .par] s t ∧
      t.run = { s.run with pause := { s.run.pause with
        link := decide (s.run.state = .active ∨ s.run.state = .awaitConfirm ∨ s.run.state = .holding) } } ∧
      ∀ l, (load t l).mask.pause = !t.run.pause.isEmpty) ∧
  (∀ (i : Instr) (r : Request) (s : State),
    rowRequest i = some r → s.lif.rx ≠ .answering → s.lif.silent = true →
    (heard r s).lif.silent = false ∧ (heard r s).run.pause.link = false ∧
      ∃ t, exec i s = .next t ∧ t = respond (requestCode r) (handle r (heard r s)))

/-- Every response fits the link's length byte (R177), and the status body has its 97 bytes and five segments (R184). The
widths of the load, step and scale bodies rest on logs 15, 16 and 42. -/
def Obligations.ResponsesFitTheLink : Prop :=
  (∀ (r : Request) (s : State), ListLaw s → StoreLaw s → (perform r s).body.length + 2 ≤ 255) ∧
  ∀ (s : State),
    (statusBody s).length = 97 ∧
    ((runBytes s).length = 38 ∧ (climateBytes s).length = 25 ∧ (boilerBytes s).length = 27 ∧ (doorBytes s).length = 4) ∧
    statusBody s = [modeByte (ovenMode s)] ++ noticeBytes s.lif.notices ++ runBytes s ++ climateBytes s
      ++ boilerBytes s ++ doorBytes s ∧
    (measurementsBody s).length = 39 ∧ (scaleBody s).length = 18 ∧
    (∀ l, (loadBody s l).length = 25) ∧ (∀ slot pos st, (stepBody s slot pos st).length = 44)

/-! ## Reads and notices -/

/-- Each read answers OK with its record's bytes and changes nothing; a load, slot or step that does not exist is answered
with NO_SUCH (R15, R35, R59, R116, R138 to R140, R184). How the bodies lay out what those rules list is the model's choice:
logs 14, 33 and 41 for READ_FRAME, log 15 for READ_STEP, READ_PROGRAM, READ_LOAD and READ_SCALE, log 32 for a list position,
logs 16, 34 and 40 for the numbering of two-valued fields, log 42 for the width of a record number and of a mains value. -/
def Obligations.ReadsAnswerAndChangeNothing : Prop :=
  ∀ (s : State), Hears s →
    (∃ t, exec .readStatus s = .next t ∧ Answered .readStatus .ok (statusBody s) t
      ∧ ChangesOnly [.lif] s t ∧ SameNotices s t) ∧
    (∃ t, exec .readMeasurements s = .next t ∧ Answered .readMeasurements .ok (measurementsBody s) t
      ∧ ChangesOnly [.lif] s t ∧ SameNotices s t) ∧
    (∃ t, exec .readFrame s = .next t ∧ Answered .readFrame .ok (frameBody s) t
      ∧ ChangesOnly [.lif] s t ∧ SameNotices s t) ∧
    (∃ t, exec .readScale s = .next t ∧ Answered .readScale .ok (scaleBody s) t
      ∧ ChangesOnly [.lif] s t ∧ SameNotices s t) ∧
    (∀ b, ∃ t, exec (.readLoad b) s = .next t ∧ ChangesOnly [.lif] s t ∧ SameNotices s t ∧
      (∀ l, b = loadByte l → Answered (.readLoad b) .ok (loadBody s l) t) ∧
      (4 < b.toNat → Answered (.readLoad b) .noSuch [] t)) ∧
    (∀ slot, ∃ t, exec (.readProgram slot) s = .next t ∧ ChangesOnly [.lif] s t ∧ SameNotices s t ∧
      (slot.toNat ≤ 7 → Answered (.readProgram slot) .ok (programBody s slot.toNat) t) ∧
      (7 < slot.toNat → Answered (.readProgram slot) .noSuch [] t)) ∧
    ∀ slot pos, ∃ t, exec (.readStep slot pos) s = .next t ∧ ChangesOnly [.lif] s t ∧ SameNotices s t ∧
      (∀ st, slot.toNat ≤ 7 → stepAt s slot.toNat pos.toNat = some st →
        Answered (.readStep slot pos) .ok (stepBody s slot.toNat pos.toNat st) t) ∧
      (7 < slot.toNat ∨ stepAt s slot.toNat pos.toNat = .none → Answered (.readStep slot pos) .noSuch [] t)

/-- READ_NOTICES returns the notice set and changes nothing; CLEAR_NOTICES removes the kinds it names and returns the set
after the removal, or is refused with RANGE when it names a value outside the 14 kinds (R183). -/
def Obligations.NoticesAreReadAndCleared : Prop :=
  ∀ (s : State), Hears s →
    (∃ t, exec .readNotices s = .next t ∧ Answered .readNotices .ok (noticeBytes s.lif.notices) t
      ∧ ChangesOnly [.lif] s t ∧ SameNotices s t) ∧
    ∀ kinds : Word, ∃ t, exec (.clearNotices kinds) s = .next t ∧ ChangesOnly [.lif] s t
      ∧ t.lif.pendingDef = s.lif.pendingDef ∧
      (kinds.toNat < 2 ^ 14 → Answered (.clearNotices kinds) .ok (noticeBytes t.lif.notices) t ∧
        (∀ k, t.lif.notices.has k = (s.lif.notices.has k && !kinds.getLsbD (noticeIndex k))) ∧
        (attn t = true ↔ ∃ k, t.lif.notices.has k = true)) ∧
      (2 ^ 14 ≤ kinds.toNat → SameNotices s t ∧ Answered (.clearNotices kinds) .range [] t)

/-! ## Configuration -/

/-- SET_LOAD, accepted (R34): the three fields, `verify_due` on a change of rating or leg, and the move to the tail of the
new class's list on a change of class. -/
def Obligations.SetLoadConfiguresOneLoad : Prop :=
  ∀ (l : LoadId) (w : Word) (c : Byte) (leg : Leg) (s : State),
    Hears s → ovenMode s = .standby ∨ ovenMode s = .service → 100 ≤ w.toNat → w.toNat ≤ 3000 → c.toNat ≤ 3 → ListLaw s →
    ∃ t, exec (.setLoad (loadByte l) w c (legByte leg)) s = .next t ∧
      Answered (.setLoad (loadByte l) w c (legByte leg)) .ok [] t ∧
      ChangesOnly [.lif, .ldt, .par] s t ∧ SameNotices s t ∧
      load t l = { load s l with
        ratedW := w.toNat, cls := c.toNat, leg := leg
        verifyDue := (load s l).verifyDue || decide ((load s l).ratedW ≠ w.toNat) || decide ((load s l).leg ≠ leg) } ∧
      (∀ k, k ≠ l → load t k = load s k) ∧
      t.ldt = { s.ldt with loads := t.ldt.loads } ∧
      t.par = { s.par with lists := t.par.lists } ∧
      ((load s l).cls = c.toNat → t.par.lists = s.par.lists) ∧
      ((load s l).cls ≠ c.toNat →
        t.par.lists.get c.toNat = s.par.lists.get c.toNat ++ [l] ∧
        t.par.lists.get (load s l).cls = (s.par.lists.get (load s l).cls).filter (fun k => k ≠ l) ∧
        ∀ d, d ≤ 3 → d ≠ c.toNat → d ≠ (load s l).cls → t.par.lists.get d = s.par.lists.get d)

/-- SET_SUPPLY, accepted (R39): the configuration is stored; a change of the connection sets every `verify_due`, empties the
leg B channel when it becomes SINGLE, and leaves the running frame's values in force (R11, R24, R40). -/
def Obligations.SetSupplyStoresTheSupply : Prop :=
  ∀ (b : RawSupply) (c : Connection) (s : State),
    Hears s → ovenMode s = .standby ∨ ovenMode s = .service → b.connection = connectionByte c →
    1000 ≤ b.budgetA.toNat → b.budgetA.toNat ≤ 7400 → 1000 ≤ b.budgetB.toNat → b.budgetB.toNat ≤ 7400 →
    b.reserveA.toNat ≤ 500 → b.reserveB.toNat ≤ 500 → 20 ≤ b.slotHc.toNat → b.slotHc.toNat ≤ 250 →
    ∃ t, exec (.setSupply b) s = .next t ∧ Answered (.setSupply b) .ok [] t ∧
      ChangesOnly [.lif, .par, .ldt, .msu] s t ∧ SameNotices s t ∧
      t.par = { s.par with supply :=
        { connection := c, budgetA := b.budgetA.toNat, budgetB := b.budgetB.toNat, reserveA := b.reserveA.toNat
          reserveB := b.reserveB.toNat, slotHc := b.slotHc.toNat } } ∧
      (s.par.supply.connection = c → t.ldt = s.ldt ∧ t.msu = s.msu) ∧
      (s.par.supply.connection ≠ c →
        (∀ l, load t l = { load s l with verifyDue := true }) ∧ t.ldt = { s.ldt with loads := t.ldt.loads } ∧
        (c = .single → t.msu.ampsB.filtered = .none ∧ t.msu.ampsB.fault = false ∧ t.msu.ampsB.badRun = 0
          ∧ t.msu.ampsB.goodRun = 0 ∧ ∀ ch, ch ≠ .ampsB → channel ch t.msu = channel ch s.msu) ∧
        (c = .dual → ∀ ch, channel ch t.msu = channel ch s.msu))

/-- SET_PLACEMENT, SET_ROTATION and ROTATE_LOWEST, accepted (R47, R49, R50): the order is stored at once and the frame in
progress is not touched. SET_MODE_ENTRY and SET_LOOP, accepted (R63, R77): the entry or the parameters are stored at once, and
the climate that stands is not touched. The bytes of SET_MODE_ENTRY's answer are the model's choice (log 16 for the optional
range, log 34 for the loop switches, log 35 for the entry's number in front). -/
def Obligations.OrdersAndLoopsAreStored : Prop :=
  (∀ (slots : List Byte) (s : State),
    Hears s → ovenMode s = .standby ∨ ovenMode s = .service → (slots.map BitVec.toNat).Perm (List.range 16) →
    ∃ t, exec (.setPlacement slots) s = .next t ∧ Answered (.setPlacement slots) .ok [] t ∧
      ChangesOnly [.lif, .par] s t ∧ SameNotices s t ∧
      t.par = { s.par with placement := slots.map BitVec.toNat }) ∧
  (∀ (c : Byte) (p : Policy) (members : Option (List LoadId)) (s : State),
    Hears s → ovenMode s = .standby ∨ ovenMode s = .service → c.toNat ≤ 3 → ListLaw s →
    (∀ ls, members = some ls → ls.Perm (s.par.lists.get c.toNat)) →
    ∃ t, exec (.setRotation c (policyByte p) (members.map fun ls => ls.map loadByte)) s = .next t ∧
      Answered (.setRotation c (policyByte p) (members.map fun ls => ls.map loadByte)) .ok [] t ∧
      ChangesOnly [.lif, .par] s t ∧ SameNotices s t ∧
      t.par = { s.par with
        policies := s.par.policies.set c.toNat p
        lists := s.par.lists.set c.toNat (members.getD (s.par.lists.get c.toNat)) }) ∧
  (∀ (l : LoadId) (s : State),
    Hears s → ovenMode s ≠ .fault → ListLaw s →
    ∃ t, exec (.rotateLowest (loadByte l)) s = .next t ∧ Answered (.rotateLowest (loadByte l)) .ok [] t ∧
      ChangesOnly [.lif, .par] s t ∧ SameNotices s t ∧
      t.par = { s.par with lists := t.par.lists } ∧
      (∀ pre post, s.par.lists.get (load s l).cls = pre ++ l :: post →
        t.par.lists.get (load s l).cls = pre ++ post ++ [l]) ∧
      ∀ d, d ≤ 3 → d ≠ (load s l).cls → t.par.lists.get d = s.par.lists.get d) ∧
  (∀ (b : RawEntry) (fan : FanSpeed) (tl hl : Bool) (s : State),
    Hears s → ovenMode s = .standby ∨ ovenMode s = .service → b.entry.toNat ≤ 7 →
    b.fan = fanByte fan → b.tempLoop = flagByte tl → b.humLoop = flagByte hl →
    b.top.toNat ≤ 100 → b.bottom.toNat ≤ 100 → b.ring.toNat ≤ 100 → b.grill.toNat ≤ 100 → b.boiler.toNat ≤ 100 →
    (tl = true → 300 ≤ b.min.toInt ∧ b.min.toInt ≤ b.max.toInt ∧ b.max.toInt ≤ 2500) →
    ∃ t, exec (.setModeEntry b) s = .next t ∧ ChangesOnly [.lif, .clc] s t ∧ SameNotices s t ∧
      t.clc = { s.clc with table := t.clc.table } ∧
      ∃ e, t.clc.table[b.entry.toNat]? = some e ∧
        e = { top := b.top.toNat, bottom := b.bottom.toNat, ring := b.ring.toNat, grill := b.grill.toNat
              boiler := b.boiler.toNat, fan := fan, tempLoop := tl, humLoop := hl
              range := if tl then some (b.min.toInt, b.max.toInt) else .none } ∧
        Answered (.setModeEntry b) .ok (entryBody b.entry.toNat e) t ∧
        ∀ i, i ≠ b.entry.toNat → t.clc.table[i]? = s.clc.table[i]?) ∧
  ∀ (kp ki ks period band : Byte) (s : State),
    Hears s → ovenMode s = .standby ∨ ovenMode s = .service →
    ks.toNat ≤ 50 → 2 ≤ period.toNat → period.toNat ≤ 16 → band.toNat ≤ 20 →
    ∃ t, exec (.setLoop kp ki ks period band) s = .next t ∧ Answered (.setLoop kp ki ks period band) .ok [] t ∧
      ChangesOnly [.lif, .clc] s t ∧ SameNotices s t ∧
      t.clc = { s.clc with loop :=
        { kp := kp.toNat, ki := ki.toNat, ks := ks.toNat, period := period.toNat, band := band.toNat } }

/-- SET_WATER and SET_SCALE, accepted (R105, R114, R115): the values are stored, the hardness clamped to 1000, and the stage
is the one into which the account falls under them. -/
def Obligations.WaterAndScaleAreStored : Prop :=
  (∀ (b : RawWater) (s : State),
    Hears s → ovenMode s = .standby ∨ ovenMode s = .service → 50 ≤ b.fillMl.toNat → b.fillMl.toNat ≤ 400 →
    1 ≤ b.advise.toNat → b.advise.toNat < b.derate.toNat → b.derate.toNat < b.lock.toNat → b.lock.toNat ≤ 60000 →
    s.sgc.request = .none →
    ∃ t, exec (.setWater b) s = .next t ∧
      Answered (.setWater b) .ok (natBytes (min 1000 b.hardness.toNat) ++ natBytes b.fillMl.toNat
        ++ natBytes b.advise.toNat ++ natBytes b.derate.toNat ++ natBytes b.lock.toNat) t ∧
      ChangesOnly [.lif, .sca, .sgc, .ldt, .par, .run] s t ∧
      t.sca = { s.sca with
        hardness := min 1000 b.hardness.toNat, fillMl := b.fillMl.toNat, advise := b.advise.toNat
        derate := b.derate.toNat, lock := b.lock.toNat, stage := t.sca.stage } ∧
      t.sca.stage = stageOf t.sca) ∧
  ∀ (mg hard : Word) (due : Bool) (s : State),
    Hears s → ovenMode s = .standby → s.sgc.request = .none →
    ∃ t, exec (.setScale mg (flagByte due) hard) s = .next t ∧ Answered (.setScale mg (flagByte due) hard) .ok [] t ∧
      ChangesOnly [.lif, .sca, .sgc, .ldt, .par, .run] s t ∧
      t.sca = { s.sca with
        scaleMg := mg.toNat, rinseDue := due, hardness := min 1000 hard.toNat, rinseSoaked := false, restored := true
        stage := t.sca.stage } ∧
      t.sca.stage = stageOf t.sca

/-- The configuration requests' refusals in their order (R34, R39, R47, R49, R63, R77, R114, R115, R178), in both modes that
take them, and SET_SCALE's in STANDBY. That SET_MODE_ENTRY's loop byte 1 is on is the model's choice (log 34). -/
def Obligations.ConfigurationRefusals : Prop :=
  ∀ (s : State), Hears s → ovenMode s = .standby ∨ ovenMode s = .service →
    (∀ l w c g, ∃ t, exec (.setLoad l w c g) s = .next t ∧
      (4 < l.toNat → Answered (.setLoad l w c g) .noSuch [] t) ∧
      (l.toNat ≤ 4 → w.toNat < 100 ∨ 3000 < w.toNat ∨ 3 < c.toNat ∨ 1 < g.toNat →
        Answered (.setLoad l w c g) .range [] t)) ∧
    (∀ b : RawSupply, ∃ t, exec (.setSupply b) s = .next t ∧
      (1 < b.connection.toNat ∨ b.budgetA.toNat < 1000 ∨ 7400 < b.budgetA.toNat ∨ b.budgetB.toNat < 1000
        ∨ 7400 < b.budgetB.toNat ∨ 500 < b.reserveA.toNat ∨ 500 < b.reserveB.toNat ∨ b.slotHc.toNat < 20
        ∨ 250 < b.slotHc.toNat → Answered (.setSupply b) .range [] t)) ∧
    (∀ slots : List Byte, slots.length = 16 → ∃ t, exec (.setPlacement slots) s = .next t ∧
      ((∃ b, b ∈ slots ∧ 15 < b.toNat) → Answered (.setPlacement slots) .range [] t) ∧
      ((∀ b, b ∈ slots → b.toNat ≤ 15) → ¬ slots.Nodup → Answered (.setPlacement slots) .duplicate [] t)) ∧
    (∀ (c p : Byte) (ls : List LoadId), ls.length ≤ 5 →
      ∃ t, exec (.setRotation c p (some (ls.map loadByte))) s = .next t ∧
      (3 < c.toNat → Answered (.setRotation c p (some (ls.map loadByte))) .noSuch [] t) ∧
      (c.toNat ≤ 3 → 1 < p.toNat ∨ (∃ l, l ∈ ls ∧ (load s l).cls ≠ c.toNat)
          ∨ ls.length ≠ (s.par.lists.get c.toNat).length →
        Answered (.setRotation c p (some (ls.map loadByte))) .range [] t) ∧
      (c.toNat ≤ 3 → p.toNat ≤ 1 → (∀ l, l ∈ ls → (load s l).cls = c.toNat) →
        ls.length = (s.par.lists.get c.toNat).length → ¬ ls.Nodup →
        Answered (.setRotation c p (some (ls.map loadByte))) .duplicate [] t)) ∧
    (∀ (c p : Byte) (bs : List Byte), bs.length ≤ 5 → ∃ t, exec (.setRotation c p (some bs)) s = .next t ∧
      (3 < c.toNat → Answered (.setRotation c p (some bs)) .noSuch [] t) ∧
      (c.toNat ≤ 3 → (∃ b, b ∈ bs ∧ 4 < b.toNat) → Answered (.setRotation c p (some bs)) .range [] t)) ∧
    (∀ (c p : Byte), ∃ t, exec (.setRotation c p .none) s = .next t ∧
      (3 < c.toNat → Answered (.setRotation c p .none) .noSuch [] t) ∧
      (c.toNat ≤ 3 → 1 < p.toNat → Answered (.setRotation c p .none) .range [] t)) ∧
    (∀ b : RawEntry, ∃ t, exec (.setModeEntry b) s = .next t ∧
      (7 < b.entry.toNat → Answered (.setModeEntry b) .noSuch [] t) ∧
      (b.entry.toNat ≤ 7 → 100 < b.top.toNat ∨ 100 < b.bottom.toNat ∨ 100 < b.ring.toNat ∨ 100 < b.grill.toNat
          ∨ 100 < b.boiler.toNat ∨ 2 < b.fan.toNat
          ∨ (b.tempLoop = 1 ∧ (b.min.toInt < 300 ∨ b.max.toInt < b.min.toInt ∨ 2500 < b.max.toInt)) →
        Answered (.setModeEntry b) .range [] t)) ∧
    (∀ kp ki ks period band, ∃ t, exec (.setLoop kp ki ks period band) s = .next t ∧
      (50 < ks.toNat ∨ period.toNat < 2 ∨ 16 < period.toNat ∨ 20 < band.toNat →
        Answered (.setLoop kp ki ks period band) .range [] t)) ∧
    (∀ b : RawWater, ∃ t, exec (.setWater b) s = .next t ∧
      (b.fillMl.toNat < 50 ∨ 400 < b.fillMl.toNat ∨ b.advise.toNat = 0 ∨ b.derate.toNat ≤ b.advise.toNat
        ∨ b.lock.toNat ≤ b.derate.toNat ∨ 60000 < b.lock.toNat → Answered (.setWater b) .range [] t)) ∧
    ∀ (mg hard : Word) (due : Byte), ∃ t, exec (.setScale mg due hard) s = .next t ∧
      (ovenMode s = .standby → 1 < due.toNat → Answered (.setScale mg due hard) .range [] t)

/-! ## Programs -/

/-- DEFINE_PROGRAM in its two parts (R131, R181): part 0 is stored as the pending definition; part 1 writes the header, keeps
the step list and consumes the pending definition; and the refusals of each part, in their order, which leave the pending
definition. The bytes of part 1's answer are the model's choice (log 16: a variable entry is one optional group). -/
def Obligations.ProgramsAreDefinedInTwoParts : Prop :=
  (∀ (slot : Byte) (tag keep : Word) (k : Option Nat) (vars : RawVars) (vs : List (Option Variable)) (s : State),
    Hears s → ovenMode s ≠ .service → 2 ≤ slot.toNat → slot.toNat ≤ 7 → 1 ≤ tag.toNat →
    keepWarmOf keep = some k → variablesOf vars = some vs →
    ∃ t, exec (.defineProgramPart0 slot 0 tag keep vars) s = .next t ∧
      Answered (.defineProgram0 slot 0 tag keep vars) .ok [] t ∧
      ChangesOnly [.lif] s t ∧ t.lif.notices = s.lif.notices ∧
      t.lif.pendingDef = some { slot := slot.toNat, tag := tag.toNat, keepWarm := k, vars := vs }) ∧
  (∀ (slot : Byte) (vars : RawVars) (d : PendingDef) (vs : List (Option Variable)) (s : State),
    Hears s → ovenMode s ≠ .service → 2 ≤ slot.toNat → slot.toNat ≤ 7 → s.lif.pendingDef = some d → d.slot = slot.toNat →
    variablesOf vars = some vs →
    (∀ k p, k ≠ d.slot → userProgram s k = some p → p.tag ≠ d.tag) → isRunningSlot s d.slot = false →
    (∀ p st i, stepAt s d.slot p = some st → Step.names i st = true → (eightVars d.vars vs)[i].isSome = true) →
    ∃ t, exec (.defineProgramPart1 slot 1 vars) s = .next t ∧
      Answered (.defineProgram1 slot 1 vars) .ok (headerBody d (eightVars d.vars vs)) t ∧
      ChangesOnly [.lif, .pst] s t ∧ t.lif.notices = s.lif.notices ∧ t.lif.pendingDef = .none ∧
      t.pst.pool = s.pst.pool ∧
      userProgram t d.slot = some
        { tag := d.tag, steps := ((userProgram s d.slot).map fun p => p.steps).getD []
          vars := eightVars d.vars vs, keepWarm := d.keepWarm } ∧
      ∀ k, k ≠ d.slot → userProgram t k = userProgram s k) ∧
  (∀ (slot part : Byte) (tag keep : Word) (vars : RawVars) (s : State),
    Hears s → ovenMode s ≠ .service →
    ∃ t, exec (.defineProgramPart0 slot part tag keep vars) s = .next t ∧ ChangesOnly [.lif] s t ∧
      (7 < slot.toNat → Answered (.defineProgram0 slot part tag keep vars) .noSuch [] t ∧ SameNotices s t) ∧
      (slot.toNat < 2 → Answered (.defineProgram0 slot part tag keep vars) .protect [] t ∧ SameNotices s t) ∧
      (2 ≤ slot.toNat → slot.toNat ≤ 7 →
        part ≠ 0 ∨ tag.toNat = 0 ∨ (keep.toNat ≠ 0 ∧ (keep.toNat < 600 ∨ 900 < keep.toNat)) ∨ VarsRefused vars →
        Answered (.defineProgram0 slot part tag keep vars) .range [] t ∧ SameNotices s t)) ∧
  ∀ (slot part : Byte) (vars : RawVars) (s : State),
    Hears s → ovenMode s ≠ .service →
    ∃ t, exec (.defineProgramPart1 slot part vars) s = .next t ∧
      (7 < slot.toNat → Answered (.defineProgram1 slot part vars) .noSuch [] t ∧ SameNotices s t) ∧
      (slot.toNat < 2 → Answered (.defineProgram1 slot part vars) .protect [] t ∧ SameNotices s t) ∧
      (2 ≤ slot.toNat → slot.toNat ≤ 7 → part ≠ 1 ∨ VarsRefused vars →
        Answered (.defineProgram1 slot part vars) .range [] t ∧ SameNotices s t) ∧
      (2 ≤ slot.toNat → slot.toNat ≤ 7 → part = 1 → ¬ VarsRefused vars →
        (∀ d, s.lif.pendingDef = some d → d.slot ≠ slot.toNat) →
        Answered (.defineProgram1 slot part vars) .state [] t ∧ SameNotices s t) ∧
      ∀ d vs, 2 ≤ slot.toNat → slot.toNat ≤ 7 → part = 1 → s.lif.pendingDef = some d → d.slot = slot.toNat →
        variablesOf vars = some vs →
        ((∃ k p, k ≠ slot.toNat ∧ userProgram s k = some p ∧ p.tag = d.tag) →
          Answered (.defineProgram1 slot part vars) .duplicate [] t ∧ SameNotices s t) ∧
        ((∀ k p, k ≠ slot.toNat → userProgram s k = some p → p.tag ≠ d.tag) →
          isRunningSlot s slot.toNat = true
            ∨ (∃ p st i, stepAt s slot.toNat p = some st ∧ Step.names i st = true
              ∧ (eightVars d.vars vs)[i].isSome = false) →
          Answered (.defineProgram1 slot part vars) .inUse [] t ∧ SameNotices s t)

/-- APPEND_STEP and INSERT_STEP (R128 to R130, R133, R134): the step takes the lowest free record, its reference stands at
the tail or at the position named, and an edit of the running slot is followed by the look-ahead; and the refusals, in their
order. That a record number is answered in one byte is log 42. -/
def Obligations.StepsAreAddedToLists : Prop :=
  (∀ (slot : Byte) (r : RawStep) (p : Program) (st : Step) (n : Nat) (s : State),
    Hears s → ovenMode s ≠ .service → userProgram s slot.toNat = some p → checkStep s slot.toNat r = .ok st →
    p.steps.length < 20 → lowestFree s = some n →
    (isRunningSlot s slot.toNat = true → hasCurrent s = true) →
    (∃ t, exec (.appendStep slot r) s = .next t ∧
      Answered (.appendStep slot r) .ok [byteOf p.steps.length, byteOf n] t ∧ SameConfigButStore s t ∧
      userProgram t slot.toNat = some { p with steps := p.steps ++ [n] } ∧
      (∀ k, k ≠ slot.toNat → userProgram t k = userProgram s k) ∧
      (∀ k, t.pst.pool[k]? = if k = n then some (some st) else s.pst.pool[k]?) ∧
      (isRunningSlot s slot.toNat = false → ChangesOnly [.lif, .pst] s t) ∧
      (isRunningSlot s slot.toNat = true → t.sgc.lookAhead = lookAheadNow t)) ∧
    ∀ pos : Byte, pos.toNat ≤ p.steps.length → positionInUse s slot.toNat pos.toNat = false →
      ∃ t, exec (.insertStep slot pos r) s = .next t ∧
        Answered (.insertStep slot pos r) .ok [byteOf n] t ∧ SameConfigButStore s t ∧
        userProgram t slot.toNat = some { p with steps := p.steps.take pos.toNat ++ n :: p.steps.drop pos.toNat } ∧
        (∀ k, k ≠ slot.toNat → userProgram t k = userProgram s k) ∧
        (∀ k, t.pst.pool[k]? = if k = n then some (some st) else s.pst.pool[k]?) ∧
        (isRunningSlot s slot.toNat = false → ChangesOnly [.lif, .pst] s t) ∧
        (isRunningSlot s slot.toNat = true → t.sgc.lookAhead = lookAheadNow t)) ∧
  ∀ (slot : Byte) (r : RawStep) (s : State),
    Hears s → ovenMode s ≠ .service →
    (∃ t, exec (.appendStep slot r) s = .next t ∧
      (2 ≤ slot.toNat → userProgram s slot.toNat = .none → Answered (.appendStep slot r) .noSuch [] t) ∧
      (slot.toNat < 2 → Answered (.appendStep slot r) .protect [] t) ∧
      ∀ p, userProgram s slot.toNat = some p →
        (∀ e, RecordRefused s p r e → Answered (.appendStep slot r) e [] t) ∧
        ∀ st, checkStep s slot.toNat r = .ok st →
          (isRunningSlot s slot.toNat = true → hasCurrent s = false → Answered (.appendStep slot r) .inUse [] t) ∧
          ((isRunningSlot s slot.toNat = true → hasCurrent s = true) → 20 ≤ p.steps.length ∨ lowestFree s = .none →
            Answered (.appendStep slot r) .full [] t)) ∧
    ∀ pos : Byte, ∃ t, exec (.insertStep slot pos r) s = .next t ∧
      (2 ≤ slot.toNat → userProgram s slot.toNat = .none → Answered (.insertStep slot pos r) .noSuch [] t) ∧
      (slot.toNat < 2 → Answered (.insertStep slot pos r) .protect [] t) ∧
      ∀ p, userProgram s slot.toNat = some p →
        (∀ e, RecordRefused s p r e → Answered (.insertStep slot pos r) e [] t) ∧
        ∀ st, checkStep s slot.toNat r = .ok st →
          (p.steps.length < pos.toNat → Answered (.insertStep slot pos r) .range [] t) ∧
          (pos.toNat ≤ p.steps.length → PositionRefused s slot.toNat pos.toNat →
            Answered (.insertStep slot pos r) .inUse [] t) ∧
          (pos.toNat ≤ p.steps.length → ¬ PositionRefused s slot.toNat pos.toNat →
            20 ≤ p.steps.length ∨ lowestFree s = .none → Answered (.insertStep slot pos r) .full [] t)

/-- REPLACE_STEP, DELETE_STEP and RETIRE_PROGRAM (R129, R130, R132, R135, R136): the record is rewritten in place, or leaves
the list and is free, or the slot is EMPTY and all its records are free; an edit of the running slot is followed by the
look-ahead; and the refusals, in their order. That a record number is answered in one byte is log 42. -/
def Obligations.StepsAreReplacedAndFreed : Prop :=
  (∀ (slot : Byte) (p : Program) (s : State),
    Hears s → ovenMode s ≠ .service → userProgram s slot.toNat = some p →
    (∀ (pos : Byte) (n : Nat) (r : RawStep) (st : Step), p.steps[pos.toNat]? = some n → n < 96 →
      checkStep s slot.toNat r = .ok st → positionInUse s slot.toNat pos.toNat = false →
      ∃ t, exec (.replaceStep slot pos r) s = .next t ∧
        Answered (.replaceStep slot pos r) .ok [byteOf n] t ∧ SameConfigButStore s t ∧
        t.pst.programs = s.pst.programs ∧
        (isRunningSlot s slot.toNat = false → ChangesOnly [.lif, .pst] s t) ∧
        (isRunningSlot s slot.toNat = true → t.sgc.lookAhead = lookAheadNow t) ∧
        ∀ k, t.pst.pool[k]? = if k = n then some (some st) else s.pst.pool[k]?) ∧
    (∀ (pos : Byte) (n : Nat), p.steps[pos.toNat]? = some n → n < 96 →
      positionInUse s slot.toNat pos.toNat = false →
      ∃ t, exec (.deleteStep slot pos) s = .next t ∧ Answered (.deleteStep slot pos) .ok [] t ∧ SameConfigButStore s t ∧
        userProgram t slot.toNat = some { p with steps := p.steps.eraseIdx pos.toNat } ∧
        (∀ k, k ≠ slot.toNat → userProgram t k = userProgram s k) ∧
        (isRunningSlot s slot.toNat = false → ChangesOnly [.lif, .pst] s t) ∧
        (isRunningSlot s slot.toNat = true → t.sgc.lookAhead = lookAheadNow t) ∧
        ∀ k, t.pst.pool[k]? = if k = n then some .none else s.pst.pool[k]?) ∧
    (isRunningSlot s slot.toNat = false →
      ∃ t, exec (.retireProgram slot) s = .next t ∧ Answered (.retireProgram slot) .ok [] t ∧
        ChangesOnly [.lif, .pst] s t ∧ SameNotices s t ∧ userProgram t slot.toNat = .none ∧
        (∀ k, k ≠ slot.toNat → userProgram t k = userProgram s k) ∧
        ∀ k, k < 96 → t.pst.pool[k]? = if k ∈ p.steps then some .none else s.pst.pool[k]?)) ∧
  ∀ (slot : Byte) (s : State),
    Hears s → ovenMode s ≠ .service →
    (∀ (pos : Byte) (r : RawStep), ∃ t, exec (.replaceStep slot pos r) s = .next t ∧
      (2 ≤ slot.toNat → userProgram s slot.toNat = .none → Answered (.replaceStep slot pos r) .noSuch [] t) ∧
      (slot.toNat < 2 → Answered (.replaceStep slot pos r) .protect [] t) ∧
      ∀ p, userProgram s slot.toNat = some p →
        (p.steps.length ≤ pos.toNat → Answered (.replaceStep slot pos r) .noSuch [] t) ∧
        (∀ e, pos.toNat < p.steps.length → RecordRefused s p r e → Answered (.replaceStep slot pos r) e [] t) ∧
        ∀ st, checkStep s slot.toNat r = .ok st → pos.toNat < p.steps.length → PositionRefused s slot.toNat pos.toNat →
          Answered (.replaceStep slot pos r) .inUse [] t) ∧
    (∀ pos : Byte, ∃ t, exec (.deleteStep slot pos) s = .next t ∧
      (2 ≤ slot.toNat → userProgram s slot.toNat = .none → Answered (.deleteStep slot pos) .noSuch [] t) ∧
      (slot.toNat < 2 → Answered (.deleteStep slot pos) .protect [] t) ∧
      ∀ p, userProgram s slot.toNat = some p →
        (p.steps.length ≤ pos.toNat → Answered (.deleteStep slot pos) .noSuch [] t) ∧
        (pos.toNat < p.steps.length → PositionRefused s slot.toNat pos.toNat →
          Answered (.deleteStep slot pos) .inUse [] t)) ∧
    ∃ t, exec (.retireProgram slot) s = .next t ∧
      (2 ≤ slot.toNat → userProgram s slot.toNat = .none → Answered (.retireProgram slot) .noSuch [] t) ∧
      (slot.toNat < 2 → Answered (.retireProgram slot) .protect [] t) ∧
      (2 ≤ slot.toNat → userProgram s slot.toNat ≠ .none → isRunningSlot s slot.toNat = true →
        Answered (.retireProgram slot) .inUse [] t)

/-- SET_VARIABLE (R137, R158): the value is clamped into the variable's range and stored, and only a current step of the
running slot that names it is recomputed, each quantity whose expression names it; and the refusals. That the answer has two
bytes is the model's choice (log 15). -/
def Obligations.VariablesAreClampedAndStored : Prop :=
  (∀ (slot var : Byte) (value : Word) (i : Fin 8) (p : Program) (v : Variable) (s : State),
    Hears s → ovenMode s ≠ .service → userProgram s slot.toNat = some p → var.toNat = i.val → p.vars[i] = some v → v.ok →
    ∃ t, exec (.setVariable slot var value) s = .next t ∧
      Answered (.setVariable slot var value) .ok (natBytes (max v.min (min v.max value.toNat))) t ∧ SameNotices s t ∧
      userProgram t slot.toNat = some
        { p with vars := p.vars.set i (some { v with value := max v.min (min v.max value.toNat) }) } ∧
      (∀ k, k ≠ slot.toNat → userProgram t k = userProgram s k) ∧ t.pst.pool = s.pst.pool ∧
      (isRunningSlot s slot.toNat = false → ChangesOnly [.lif, .pst] s t) ∧
      ((∀ st, currentStep s = some st → Step.names i st = false) → ChangesOnly [.lif, .pst] s t) ∧
      (∀ c, isRunningSlot s slot.toNat = true → currentStep s = some (.climate c) → Step.names i (.climate c) = true →
        ChangesOnly [.lif, .pst, .run, .clc] s t ∧ Recomputed i slot.toNat c s t)) ∧
  ∀ (slot var : Byte) (value : Word) (s : State),
    Hears s → ovenMode s ≠ .service →
    ∃ t, exec (.setVariable slot var value) s = .next t ∧
      (2 ≤ slot.toNat → userProgram s slot.toNat = .none → Answered (.setVariable slot var value) .noSuch [] t) ∧
      (slot.toNat < 2 → Answered (.setVariable slot var value) .protect [] t) ∧
      ∀ p, userProgram s slot.toNat = some p → (p.vars[var.toNat]?).join = .none →
        Answered (.setVariable slot var value) .noSuch [] t

/-! ## Run control -/

/-- START of a user program (R110, R142 to R146): the run record is replaced, the mode becomes RUNNING, an open door pauses
the run, and the step at position 0 has started; and START's refusals, in their order. -/
def Obligations.StartBeginsAUserProgram : Prop :=
  (∀ (slot : Byte) (p : Program) (st : Step) (s : State),
    Hears s → ovenMode s = .standby → userProgram s slot.toNat = some p → p.steps ≠ [] →
    stepAt s slot.toNat 0 = some st → isUserStep st = true → s.sca.rinseDue = false →
    (s.sca.stage = .lock → ∀ n k, stepAt s slot.toNat n = some k → isSteamStep s k = false) →
    ∃ t, exec (.start slot) s = .next t ∧ Answered (.start slot) .ok [] t ∧
      ChangesOnly [.lif, .run, .clc, .sgc, .sca, .ldt, .par] s t ∧ SameConfig s t ∧
      t.lif.pendingDef = s.lif.pendingDef ∧
      ovenMode t = .running ∧ t.ldt.aux.lamp = true ∧
      t.run.slot = some slot.toNat ∧ t.run.position = some 0 ∧ t.run.elapsedS = 0 ∧ t.run.totalS = 0 ∧ t.run.holdS = 0 ∧
      t.run.lastEnd = .none ∧ t.run.endingCause = .none ∧ t.run.outcome = .none ∧
      t.run.state = (if waitsForConfirm st = true then .awaitConfirm else .active) ∧
      t.run.awaiting = (if waitsForConfirm st = true then some .step else .none) ∧
      t.run.pause.door = (s.dlu.door == .opened) ∧ t.run.pause.host = false ∧ t.run.pause.tank = false ∧
      t.run.pause.link = false ∧
      (s.dlu.door = .opened → t.lif.notices.doorPause = true) ∧
      t.sgc.request = .none ∧ t.sgc.served = false ∧ t.sgc.tankEmpty = false ∧ t.sgc.lookAhead = lookAheadNow t ∧
      (∀ c, st = .climate c →
        t.run.latched = (evalStep s slot.toNat c).latched ∧ t.run.marks.clamped = (evalStep s slot.toNat c).clamped ∧
        t.clc.climate = stepClimate s c.mode t.run.latched.temp t.run.latched.humidity c.vent)) ∧
  ∀ (slot : Byte) (s : State),
    Hears s → ovenMode s = .standby → 2 ≤ slot.toNat →
    ∃ t, exec (.start slot) s = .next t ∧
      (userProgram s slot.toNat = .none → Answered (.start slot) .noSuch [] t) ∧
      ∀ p, userProgram s slot.toNat = some p →
        (p.steps = [] → Answered (.start slot) .state [] t) ∧
        (p.steps ≠ [] →
          s.sca.rinseDue = true
            ∨ (s.sca.stage = .lock ∧ ∃ n st, stepAt s slot.toNat n = some st ∧ isSteamStep s st = true) →
          Answered (.start slot) .water [] t ∧ t.run = s.run)

/-- START of a system program, accepted (R117, R126, R144, R145, R149): DESCALE drains a boiler that holds something, and
passes its drain of an EMPTY one to wait for the user; RINSE waits for the user. -/
def Obligations.StartBeginsASystemProgram : Prop :=
  ∀ (s : State),
    Hears s → ovenMode s = .standby →
    (s.sgc.state = .empty → s.dlu.door ≠ .opened →
      ∃ t, exec (.start 0) s = .next t ∧ Answered (.start 0) .ok [] t ∧ SameConfig s t ∧ ovenMode t = .running ∧
        t.run.slot = some 0 ∧ t.run.position = some 1 ∧ t.run.state = .awaitConfirm ∧ t.run.awaiting = some .step ∧
        t.run.lastEnd = some { position := 0, cause := .condition, marks := {} } ∧ t.lif.notices.stepEnded = true ∧
        currentPrompt t = some 250) ∧
    (s.sgc.state ≠ .empty → s.sgc.state ≠ .fault →
      ∃ t, exec (.start 0) s = .next t ∧ Answered (.start 0) .ok [] t ∧ SameConfig s t ∧ ovenMode t = .running ∧
        t.run.slot = some 0 ∧ t.run.position = some 0 ∧ t.run.state = .active ∧
        t.sgc.state = .draining ∧ t.sgc.request = .drain ∧ t.sgc.served = false) ∧
    ∃ t, exec (.start 1) s = .next t ∧ Answered (.start 1) .ok [] t ∧ SameConfig s t ∧ ovenMode t = .running ∧
      t.run.slot = some 1 ∧ t.run.position = some 0 ∧ t.run.state = .awaitConfirm ∧ t.run.awaiting = some .step ∧
      t.sgc.request = .none ∧ currentPrompt t = some 252

/-- PAUSE and RESUME (R153, R154): PAUSE adds HOST and masks every load; RESUME removes HOST and TANK, clears `tank_empty` with
TANK, and lets the loads go when the set is empty. -/
def Obligations.PauseAndResume : Prop :=
  (∀ (s : State),
    Hears s → ovenMode s = .running → PauseLaw s → FiringLaw s →
    (s.run.state = .active ∨ s.run.state = .awaitConfirm ∨ s.run.state = .holding →
      ∃ t, exec .pause s = .next t ∧ Answered .pause .ok [] t ∧ ChangesOnly [.lif, .run, .ldt, .par] s t ∧
        SameConfig s t ∧ SameNotices s t ∧ t.run = { s.run with pause := { s.run.pause with host := true } } ∧
        ∀ l, (load t l).mask.pause = true ∧ (load t l).on = false) ∧
    (s.run.state = .ending →
      ∃ t, exec .pause s = .next t ∧ Answered .pause .state [] t ∧ ChangesOnly [.lif] s t)) ∧
  ∀ (s : State),
    Hears s → ovenMode s = .running → PauseLaw s →
    (s.run.pause.host = true ∨ s.run.pause.tank = true →
      ∃ t, exec .resume s = .next t ∧ Answered .resume .ok [] t ∧ SameConfig s t ∧
        t.run.pause.host = false ∧ t.run.pause.tank = false ∧
        (s.run.pause.tank = true → t.sgc.tankEmpty = false) ∧
        ((∀ st, currentStep s = some st → isUserStep st = true) →
          t.run = { s.run with
            pause := { s.run.pause with host := false, tank := false }, degraded := t.run.degraded } ∧
          ∀ l, (load t l).mask.pause = !t.run.pause.isEmpty)) ∧
    (s.run.pause.host = false → s.run.pause.tank = false →
      ∃ t, exec .resume s = .next t ∧ Answered .resume .state [] t ∧ ChangesOnly [.lif] s t)

/-- CONFIRM (R150, R151): it ends a step that waits for it, and it goes on from a step whose end waited. In DESCALE and RINSE
(R83, R85, R111, R117) the BOILER_FILL step that follows it starts: its fill begins in an EMPTY boiler, and any other boiler
but one in FAULT drains first. -/
def Obligations.ConfirmEndsOrGoesOn : Prop :=
  (∀ (s : State),
    Hears s → ovenMode s = .running → RunLaw s → NextIsUserStep s →
    (∀ st, s.run.state = .awaitConfirm → s.run.awaiting = some .step → currentStep s = some st → isUserStep st = true →
      ∃ t, exec .confirm s = .next t ∧
        Answered .confirm .ok [] t ∧ SameConfig s t ∧
        StepEnded st .confirm s.run.marks s t) ∧
    (s.run.state = .awaitConfirm → s.run.awaiting = some .next →
      ∃ t, exec .confirm s = .next t ∧
        Answered .confirm .ok [] t ∧ SameConfig s t ∧
        t.lif.notices.stepEnded = s.lif.notices.stepEnded ∧ WentOn s t) ∧
    (s.run.state ≠ .awaitConfirm →
      ∃ t, exec .confirm s = .next t ∧ Answered .confirm .state [] t ∧ ChangesOnly [.lif] s t)) ∧
  ∀ (slot pos : Nat) (c : FillContent) (s : State),
    Hears s → ovenMode s = .running → slot ≤ 1 → s.run.slot = some slot → s.run.position = some pos →
    s.run.state = .awaitConfirm → s.run.awaiting = some .step → stepAt s slot (pos + 1) = some (.boilerFill c) →
    (s.sgc.state = .empty → s.msu.high.reported = .dry) →
    ∃ t, exec .confirm s = .next t ∧ Answered .confirm .ok [] t ∧ SameConfig s t ∧
      t.run.lastEnd = some { position := pos, cause := .confirm, marks := s.run.marks } ∧
      t.lif.notices.stepEnded = true ∧ t.run.position = some (pos + 1) ∧ t.run.state = .active ∧
      t.run.awaiting = .none ∧ t.run.elapsedS = 0 ∧ t.run.latched = {} ∧
      t.sgc.request = .fill c ∧ t.sgc.served = false ∧ t.sgc.tankEmpty = false ∧
      (s.sgc.state = .empty →
        t.sgc.state = .filling ∧ t.ldt.aux.feedPump = true ∧ t.sgc.fillTimer = 0 ∧ t.sgc.soakedS = some 0 ∧
        (c = .descaler → t.sgc.content = .descaler ∧ t.sgc.purpose = .descale ∧ t.sca.rinseDue = true
          ∧ t.sca.rinseSoaked = false) ∧
        (c = .water → t.sgc.content = .water ∧ t.sgc.purpose = .rinse ∧ t.sca.rinseDue = s.sca.rinseDue
          ∧ t.sca.rinseSoaked = s.sca.rinseSoaked)) ∧
      (s.sgc.state ≠ .empty → s.sgc.state ≠ .fault → t.sgc.state = .draining) ∧
      (s.sgc.state ≠ .empty → t.sgc.content = s.sgc.content ∧ t.sgc.purpose = s.sgc.purpose
        ∧ t.sca = s.sca) ∧
      (s.sgc.state = .fault → t.sgc.state = .fault)

/-- SKIP (R150, R152): the current step ends with cause SKIP and mark SKIPPED; a run of a system program refuses it with
PROTECTED, and a run with no step to end with STATE. -/
def Obligations.SkipEndsTheStep : Prop :=
  ∀ (s : State),
    Hears s → ovenMode s = .running → RunLaw s →
    (∀ st, NextIsUserStep s → runsSystem s = false → currentStep s = some st → isUserStep st = true →
      s.run.awaiting ≠ some .next →
      ∃ t, exec .skip s = .next t ∧
        Answered .skip .ok [] t ∧ SameConfig s t ∧
        StepEnded st .skip { s.run.marks with skipped := true } s t) ∧
    (runsSystem s = true → ∃ t, exec .skip s = .next t ∧ Answered .skip .protect [] t ∧ ChangesOnly [.lif] s t) ∧
    (runsSystem s = false →
      s.run.state = .holding ∨ s.run.state = .ending ∨ s.run.awaiting = some .next →
      ∃ t, exec .skip s = .next t ∧ Answered .skip .state [] t ∧ ChangesOnly [.lif] s t)

/-- ADJUST of the three quantities (R66, R155): the value is clamped and latched, a clamp sets CLAMPED, the setpoints reach
the climate controller, and nothing else of the run changes; and the refusals, in their order. That the answer has two bytes
is the model's choice (log 15). -/
def Obligations.AdjustChangesOneLatchedValue : Prop :=
  (∀ (v : Word) (s : State),
    Hears s → ovenMode s = .running → RunLaw s → runsSystem s = false → hasCurrent s = true →
    (∀ old lo hi, s.run.latched.temp = some old → tempRange s.clc.climate.entry = (lo, hi) → lo ≤ hi →
      ∃ t x, exec (.adjustTemp v) s = .next t ∧ x = max lo (min hi v.toInt) ∧
        Answered (.adjust 0 v) .ok (intBytes x) t ∧ ChangesOnly [.lif, .run, .clc] s t ∧ SameNotices s t ∧
        t.run = { s.run with
          latched := { s.run.latched with temp := some x }
          marks := { s.run.marks with clamped := s.run.marks.clamped || decide (x ≠ v.toInt) } } ∧
        t.clc = { s.clc with climate := t.clc.climate } ∧
        (s.clc.climate.kind ≠ .none → t.clc.climate = { s.clc.climate with setpoint := some x })) ∧
    (∀ old, s.run.latched.humidity = some old →
      ∃ t x, exec (.adjustHumidity v) s = .next t ∧ x = min 100 v.toNat ∧
        Answered (.adjust 1 v) .ok (natBytes x) t ∧ ChangesOnly [.lif, .run, .clc] s t ∧ SameNotices s t ∧
        t.run = { s.run with
          latched := { s.run.latched with humidity := some (x : Int) }
          marks := { s.run.marks with clamped := s.run.marks.clamped || decide (x ≠ v.toNat) } } ∧
        t.clc = { s.clc with climate := t.clc.climate } ∧
        (s.clc.climate.kind ≠ .none → t.clc.climate = { s.clc.climate with humSet := some (x : Int) })) ∧
    ∀ old, s.run.latched.duration = some old → s.run.awaiting ≠ some .next →
      ∃ t x, exec (.adjustDuration v) s = .next t ∧ x = min 65535 (s.run.elapsedS + v.toNat) ∧
        Answered (.adjust 2 v) .ok (natBytes x) t ∧ ChangesOnly [.lif, .run] s t ∧ SameNotices s t ∧
        t.run = { s.run with
          latched := { s.run.latched with duration := some x }
          marks := { s.run.marks with clamped := s.run.marks.clamped || decide (x ≠ s.run.elapsedS + v.toNat) } }) ∧
  ∀ (v : Word) (s : State),
    Hears s → ovenMode s = .running →
    (∃ t, exec (.adjustTemp v) s = .next t ∧
      (runsSystem s = true → Answered (.adjust 0 v) .protect [] t ∧ ChangesOnly [.lif] s t) ∧
      (runsSystem s = false →
        s.run.state = .holding ∨ s.run.state = .ending ∨ s.run.latched.temp = .none →
        Answered (.adjust 0 v) .state [] t ∧ ChangesOnly [.lif] s t)) ∧
    (∃ t, exec (.adjustHumidity v) s = .next t ∧
      (runsSystem s = true → Answered (.adjust 1 v) .protect [] t ∧ ChangesOnly [.lif] s t) ∧
      (runsSystem s = false →
        s.run.state = .holding ∨ s.run.state = .ending ∨ s.run.latched.humidity = .none →
        Answered (.adjust 1 v) .state [] t ∧ ChangesOnly [.lif] s t)) ∧
    ∃ t, exec (.adjustDuration v) s = .next t ∧
      (runsSystem s = true → Answered (.adjust 2 v) .protect [] t ∧ ChangesOnly [.lif] s t) ∧
      (runsSystem s = false →
        s.run.state = .holding ∨ s.run.state = .ending ∨ s.run.latched.duration = .none ∨ s.run.awaiting = some .next →
        Answered (.adjust 2 v) .state [] t ∧ ChangesOnly [.lif] s t)

/-- ABORT, END_HOLD and the end of the keep-warm time (R160 to R162): the run enters ENDING with its cause, the pause set
and the climate are gone, and the boiler is drained; a run whose boiler is EMPTY passes to IDLE at once (with a TANK
pause: log 10). The row HOLD_TIMEOUT is the tick that carries `hold_s` to 3600 (log 4). -/
def Obligations.RunsAreEnded : Prop :=
  ∀ (s : State), PauseLaw s →
    (∀ (i : Instr) (c : RunOutcome),
      (i = .abort ∧ c = .aborted ∧ Hears s ∧ ovenMode s = .running
          ∧ (s.run.state = .active ∨ s.run.state = .awaitConfirm ∨ s.run.state = .holding)) ∨
        (i = .endHold ∧ c = .completed ∧ Hears s ∧ ovenMode s = .running ∧ s.run.state = .holding) ∨
        (i = .holdTimeout ∧ c = .completed ∧ s.run.state = .holding ∧ 3599 ≤ s.run.holdS) →
      ∃ t, exec i s = .next t ∧ EndsWith c t ∧ SameConfig s t ∧
        (i = .abort → Answered .abort .ok [] t) ∧ (i = .endHold → Answered .endHold .ok [] t) ∧
        (i = .holdTimeout → t.run.holdS = 3600) ∧
        t.run.pause = {} ∧ (∀ l, (load t l).mask.pause = false) ∧ t.run.latched = {} ∧ t.run.awaiting = .none ∧
        t.run.lastEnd = s.run.lastEnd ∧ t.lif.notices.stepEnded = s.lif.notices.stepEnded ∧
        t.clc.climate.kind = .none ∧ t.clc.heat = 0 ∧ t.clc.integral = 0 ∧ t.clc.loopTimer = .none ∧
        (s.sgc.state = .empty → s.sgc.tankEmpty = true ∨ (s.sgc.request = .none ∧ cookingWant s = false) →
          t.run.state = .idle ∧ t.lif.notices.programEnded = true ∧ t.sgc.request = .none ∧ t.sgc.state = .empty) ∧
        (s.sgc.state ≠ .empty → s.sgc.state ≠ .fault →
          t.run.state = .ending ∧ t.sgc.state = .draining ∧ t.sgc.request = .drain)) ∧
    (Hears s → ovenMode s = .running → s.run.state = .ending →
      ∃ t, exec .abort s = .next t ∧ Answered .abort .state [] t ∧ ChangesOnly [.lif] s t) ∧
    (Hears s → ovenMode s = .running → s.run.state ≠ .holding →
      ∃ t, exec .endHold s = .next t ∧ Answered .endHold .state [] t ∧ ChangesOnly [.lif] s t)

/-! ## Loads, faults, service, INIT -/

/-- VERIFY and CLEAR_FAULT (R30, R31, R100, R171): a load is judged anew, the fault latch goes when no cause is present, and
a cooled boiler is drained with its content record kept. A load outside 0..4 is refused with NO_SUCH. -/
def Obligations.FaultsAreCleared : Prop :=
  (∀ (l : LoadId) (s : State),
    Hears s → ovenMode s ≠ .fault →
    ∃ t, exec (.verify (loadByte l)) s = .next t ∧ SameNotices s t ∧
      ((load s l).mask.health = false → Answered (.verify (loadByte l)) .ok [] t ∧ ChangesOnly [.lif, .ldt] s t ∧
        t.ldt = { s.ldt with loads := s.ldt.loads.set l { load s l with verifyDue := true } }) ∧
      ((load s l).mask.health = true →
        Answered (.verify (loadByte l)) .state [] t ∧ ChangesOnly [.lif] s t)) ∧
  (∀ (s : State),
    Hears s → ovenMode s ≠ .fault →
    ∃ t, exec (.verify 0xFF) s = .next t ∧ SameNotices s t ∧ Answered (.verify 0xFF) .ok [] t ∧
      ChangesOnly [.lif, .ldt] s t ∧ t.ldt = { s.ldt with loads := t.ldt.loads } ∧
      ∀ l, load t l = { load s l with verifyDue := (load s l).verifyDue || !(load s l).mask.health }) ∧
  (∀ (l : LoadId) (s : State),
    Hears s →
    ∃ t, exec (.clearFaultLoad (loadByte l)) s = .next t ∧ SameNotices s t ∧
      ((load s l).health = .opened ∨ (load s l).health = .high →
        Answered (.clearFault 2 (loadByte l)) .ok [] t ∧ ChangesOnly [.lif, .ldt] s t ∧
        t.ldt = { s.ldt with loads := s.ldt.loads.set l { load s l with
          mask := { (load s l).mask with health := false }
          health := .untested, measuredW := .none, verifyDue := true } }) ∧
      ((load s l).health ≠ .opened → (load s l).health ≠ .high →
        Answered (.clearFault 2 (loadByte l)) .state [] t ∧ ChangesOnly [.lif] s t)) ∧
  (∀ (b : Byte) (s : State),
    Hears s →
    (∀ T, s.dlu.latch = true → s.msu.cavity.fault = false → s.msu.cavity.filtered = some T → T ≤ 3000 →
      ∃ t, exec (.clearFaultOven b) s = .next t ∧
        Answered (.clearFault 0 b) .ok [] t ∧
        ChangesOnly [.lif, .dlu, .ldt] s t ∧ SameNotices s t ∧
        t.dlu = { s.dlu with latch := false, causeLimit := false, causeSensor := false } ∧
        (∀ l, load t l = { load s l with mask := { (load s l).mask with faultMode := false } }) ∧
        t.ldt.aux.coolFan = false ∧
        (s.svc.service = false → ovenMode t = if s.run.state = .idle then .standby else .running)) ∧
    (s.dlu.latch = false ∨ s.msu.cavity.fault = true ∨ s.msu.cavity.filtered = .none
        ∨ (∃ T, s.msu.cavity.filtered = some T ∧ 3000 < T) →
      ∃ t, exec (.clearFaultOven b) s = .next t ∧ Answered (.clearFault 0 b) .state [] t ∧ ChangesOnly [.lif] s t)) ∧
  (∀ (b : Byte) (s : State),
    Hears s → 4 < b.toNat →
    (ovenMode s ≠ .fault → b ≠ 0xFF →
      ∃ t, exec (.verify b) s = .next t ∧ Answered (.verify b) .noSuch [] t ∧ ChangesOnly [.lif] s t
        ∧ SameNotices s t) ∧
    ∃ t, exec (.clearFaultLoad b) s = .next t ∧ Answered (.clearFault 2 b) .noSuch [] t ∧ ChangesOnly [.lif] s t
      ∧ SameNotices s t) ∧
  ∀ (b : Byte) (s : State),
    Hears s →
    (∀ T, s.sgc.state = .fault → s.msu.boiler.fault = false → s.msu.boiler.filtered = some T → T < 1000 →
      ∃ t, exec (.clearFaultBoiler b) s = .next t ∧ Answered (.clearFault 1 b) .ok [] t ∧
        ChangesOnly [.lif, .sgc, .ldt, .run, .par] s t ∧ SameNotices s t ∧ SameConfig s t ∧
        t.sgc.state = .draining ∧ t.sgc.content = s.sgc.content ∧ t.sgc.purpose = s.sgc.purpose ∧
        t.sgc.soakedS = s.sgc.soakedS ∧ t.sgc.request = s.sgc.request ∧ t.sgc.demand = 0 ∧
        (load t .boiler).mask.dryfire = false ∧ (load t .boiler).mask.level = true ∧ t.ldt.aux.drainPump = true) ∧
    (s.sgc.state ≠ .fault ∨ s.msu.boiler.fault = true ∨ s.msu.boiler.filtered = .none
        ∨ (∃ T, s.msu.boiler.filtered = some T ∧ 1000 ≤ T) →
      ∃ t, exec (.clearFaultBoiler b) s = .next t ∧ Answered (.clearFault 1 b) .state [] t ∧ ChangesOnly [.lif] s t)

/-- FORCE and PATTERN (R190, R191): a forcing writes its load's demand and FORCE_OFF, and is refused while a pattern runs,
and with NO_SUCH for a load outside 0..4; a pattern releases every forcing and writes the demand and FORCE_OFF of all five
loads. The numbering of the patterns is the model's choice (log 12). -/
def Obligations.ServiceDrivesTheLoads : Prop :=
  ∀ (s : State),
    Hears s → ovenMode s = .service →
    (∀ (i : Instr) (l : LoadId) (a : Byte) (f : Forcing), s.svc.pattern = .none →
      (i = .forceOn (loadByte l) ∧ a = 0 ∧ f = .on) ∨ (i = .forceOff (loadByte l) ∧ a = 1 ∧ f = .off)
        ∨ (i = .forceRelease (loadByte l) ∧ a = 2 ∧ f = .none) →
      ∃ t, exec i s = .next t ∧ Answered (.force (loadByte l) a) .ok [] t ∧
        ChangesOnly [.lif, .svc, .ldt, .par] s t ∧ SameNotices s t ∧
        t.svc = { s.svc with forcing := s.svc.forcing.set l f } ∧
        (load t l).demand = (if f = .on then 16 else 0) ∧ (load t l).mask.forceOff = (f == .off) ∧
        ∀ k, k ≠ l → load t k = load s k) ∧
    (∀ (l : Byte), s.svc.pattern ≠ .none → l.toNat ≤ 4 →
      (∃ t, exec (.forceOn l) s = .next t ∧ Answered (.force l 0) .state [] t ∧ ChangesOnly [.lif] s t) ∧
      (∃ t, exec (.forceOff l) s = .next t ∧ Answered (.force l 1) .state [] t ∧ ChangesOnly [.lif] s t) ∧
      ∃ t, exec (.forceRelease l) s = .next t ∧ Answered (.force l 2) .state [] t ∧ ChangesOnly [.lif] s t) ∧
    (∀ (i : Instr) (l a : Byte), 4 < l.toNat →
      (i = .forceOn l ∧ a = 0) ∨ (i = .forceOff l ∧ a = 1) ∨ (i = .forceRelease l ∧ a = 2) →
      ∃ t, exec i s = .next t ∧ Answered (.force l a) .noSuch [] t ∧ ChangesOnly [.lif] s t ∧ SameNotices s t) ∧
    ∀ (i : Instr) (b : Byte) (p : Pattern) (fires held : LoadId → Bool),
      (i = .patternAllOff ∧ b = 0 ∧ p = .allOff ∧ fires = (fun _ => false) ∧ held = (fun _ => true)) ∨
        (i = .patternWalk ∧ b = 1 ∧ p = .walk .top ∧ fires = (fun l => l == .top) ∧ held = (fun l => l != .top)) ∨
        (i = .patternAlternate ∧ b = 2 ∧ p = .alternate .even
          ∧ fires = (fun l => l == .top || l == .ring || l == .boiler)
          ∧ held = (fun l => l == .bottom || l == .grill)) ∨
        (i = .patternNone ∧ b = 3 ∧ p = .none ∧ fires = (fun _ => false) ∧ held = (fun _ => false)) →
      ∃ t, exec i s = .next t ∧ Answered (.pattern b) .ok [] t ∧ ChangesOnly [.lif, .svc, .ldt, .par] s t ∧
        SameNotices s t ∧ t.svc.pattern = p ∧ t.svc.service = true ∧ (∀ l, t.svc.forcing.get l = .none) ∧
        (∀ l, (load t l).demand = (if fires l then 16 else 0) ∧ (load t l).mask.forceOff = held l) ∧
        (i = .patternWalk → (load t .top).verifyDue = true)

/-- INIT (R37, R61, R80, R104, R121, R141, R165, R174, R187, R189): what each block gives up and what it keeps. -/
def Obligations.InitRestartsTheBlocks : Prop :=
  ∀ (s : State),
    Hears s → PauseLaw s →
    ∃ t, exec .init s = .next t ∧
      Answered .init .ok [] t ∧
      ChangesOnly [.lif, .run, .sgc, .clc, .ldt, .par, .svc] s t ∧
      t.lif.notices = {} ∧ t.lif.pendingDef = .none ∧
      (t.run.state = .idle ∧ t.run.pause = {} ∧ (∀ l, (load t l).mask.pause = false) ∧
        (s.run.state ≠ .idle → t.run = { s.run with
          state := .idle, pause := {}, awaiting := .none, latched := {}, endingCause := .none
          outcome := some .aborted }) ∧
        (s.run.state = .idle → t.run = s.run)) ∧
      (t.sgc.state = (if s.msu.low.reported = .wet then .draining else .empty) ∧
        t.sgc.content = (if s.msu.low.reported = .wet then .unknown else .none) ∧ t.sgc.purpose = .idle ∧
        t.sgc.soakedS = .none ∧ t.sgc.tankEmpty = false ∧ t.sgc.request = .none ∧ t.sgc.served = false ∧
        t.sgc.lookAhead = false ∧ t.sgc.share = 0 ∧ t.sgc.humQuanta = 0 ∧ t.sgc.needsSteam = false ∧
        t.sgc.thermostat = false ∧ t.sgc.drainCount = .none ∧ t.sgc.demand = 0 ∧
        t.ldt.aux.feedPump = false ∧ t.ldt.aux.drainPump = (s.msu.low.reported == .wet) ∧
        (load t .boiler).mask.level = true ∧ (load t .boiler).mask.dryfire = false ∧
        (load t .boiler).mask.scale = (s.sca.stage == .lock)) ∧
      (t.clc.climate.kind = .none ∧ t.clc.heat = 0 ∧ t.clc.integral = 0 ∧ t.clc.humid = 0 ∧ t.clc.loopTimer = .none
        ∧ t.clc.demands = { top := 0, bottom := 0, ring := 0, grill := 0 } ∧ t.clc.table = s.clc.table
        ∧ t.clc.loop = s.clc.loop ∧ t.ldt.aux.vent = false ∧ t.ldt.aux.coolFan = s.ldt.aux.coolFan
        ∧ (s.dlu.door = .opened → t.ldt.aux.fan = .off)
        ∧ (s.dlu.door ≠ .opened → (∃ T, s.msu.cavity.filtered = some T ∧ 600 < T) → t.ldt.aux.fan = .low)
        ∧ ((∀ T, s.msu.cavity.filtered = some T → T ≤ 600) → t.ldt.aux.fan = .off)) ∧
      (t.par = { s.par with frame := t.par.frame } ∧
        t.par.frame.state = (if s.par.frame.state = .firing then .waiting else s.par.frame.state) ∧
        t.par.frame.grid = emptyGrid ∧ (∀ l, t.par.frame.withdrawn.get l = false)) ∧
      (ovenMode s = .running → t.lif.silence = false ∧ t.lif.silent = false) ∧
      (∀ l, (load t l).demand = 0 ∧ (load t l).mask.door = (load s l).mask.door
        ∧ (load t l).mask.supply = (load s l).mask.supply ∧ (load t l).mask.faultMode = (load s l).mask.faultMode) ∧
      (s.svc.service = false → t.svc = s.svc) ∧
      (∀ l, (load t l).served = 0 ∧ (load t l).shortfall = 0 ∧ (load t l).on = false ∧ (load t l).mask.overload = false
        ∧ (load t l).health = (load s l).health ∧ (load t l).measuredW = (load s l).measuredW
        ∧ (load t l).verifyDue = (load s l).verifyDue ∧ (load t l).mask.health = (load s l).mask.health
        ∧ (load t l).ratedW = (load s l).ratedW ∧ (load t l).cls = (load s l).cls ∧ (load t l).leg = (load s l).leg) ∧
      (t.ldt.measA = .none ∧ t.ldt.measB = .none) ∧
      (s.svc.service = true → t.svc.pattern = .none ∧
        ∀ l, t.svc.forcing.get l = .none ∧ (load t l).demand = 0 ∧ (load t l).mask.forceOff = false)

/-! ## Samples -/

/-- What a sample does to its channel's record, and the notice of a fault that sets (R2 to R6), for the three channels of
ANALOG_SAMPLE; and what it does at its consumers: a boiler sample ends HEATING, drives the thermostats and judges STANDING
(R88 to R91, R95), a cavity sample ends a REACHED step (R148), and a moisture fault that sets gives G 500 (R74). That the raw
value of an invalid sample is not stored is log 30. -/
def Obligations.SamplesFilterAndFault : Prop :=
  (∀ (input : AnalogInput) (raw : Int) (s : State),
    ∃ t a, exec (.analogSample input raw) s = .next t ∧ a = channel (inputChannel input) t.msu ∧
      (∀ c, c ≠ inputChannel input → channel c t.msu = channel c s.msu) ∧
      (t.msu.probe = s.msu.probe ∧ t.msu.low = s.msu.low ∧ t.msu.high = s.msu.high ∧ t.msu.latest = s.msu.latest) ∧
      ∀ old lo hi, old = channel (inputChannel input) s.msu →
        (lo, hi) = (match input with | .cavity => (-200, 4000) | .boiler => (-200, 2000) | .moisture => (0, 100)) →
        (a.raw = if lo ≤ raw ∧ raw ≤ hi then raw else old.raw) ∧
        (lo ≤ raw → raw ≤ hi → old.fault = false →
          a.fault = false ∧ a.badRun = 0 ∧ a.goodRun = old.goodRun ∧
          (old.filtered = .none → a.filtered = some raw) ∧
          ∀ f, old.filtered = some f → a.filtered = some (f + (raw - f).tdiv 4)) ∧
        (lo ≤ raw → raw ≤ hi → old.fault = true → old.goodRun < 2 →
          a.fault = true ∧ a.badRun = 0 ∧ a.goodRun = old.goodRun + 1 ∧ a.filtered = old.filtered) ∧
        (lo ≤ raw → raw ≤ hi → old.fault = true → 2 ≤ old.goodRun →
          a.fault = false ∧ a.badRun = 0 ∧ a.goodRun = 0 ∧ a.filtered = some raw) ∧
        (raw < lo ∨ hi < raw → old.fault = false → old.badRun < 2 →
          a.fault = false ∧ a.badRun = old.badRun + 1 ∧ a.goodRun = 0 ∧ a.filtered = old.filtered) ∧
        (raw < lo ∨ hi < raw → old.fault = false → 2 ≤ old.badRun →
          a.fault = true ∧ a.badRun = 3 ∧ a.goodRun = 0 ∧ a.filtered = .none ∧ t.lif.notices.sensorFault = true) ∧
        (raw < lo ∨ hi < raw → old.fault = true →
          a.fault = true ∧ a.badRun = min 3 (old.badRun + 1) ∧ a.goodRun = 0 ∧ a.filtered = old.filtered) ∧
        (a.fault = old.fault ∨ a.fault = false → t.lif.notices.sensorFault = s.lif.notices.sensorFault)) ∧
  (∀ (raw T : Int) (s : State),
    BoilerLaw s → s.msu.boiler.fault = false → -200 ≤ raw → raw ≤ 2000 → T = filteredAfter s.msu.boiler raw → T ≤ 1300 →
    ∃ t, exec (.analogSample .boiler raw) s = .next t ∧ SameConfig s t ∧ t.msu.boiler.filtered = some T ∧
      t.run = { s.run with degraded := t.run.degraded } ∧
      (s.sgc.state = .empty ∨ s.sgc.state = .filling ∨ s.sgc.state = .draining ∨ s.sgc.state = .fault
          ∨ (s.sgc.state = .heating ∧ T < 980) → ChangesOnly [.msu] s t) ∧
      (s.sgc.state = .heating → cookingWant s = true → 980 ≤ T →
        t.sgc.state = (if 0 < steamDemand s ∧ s.sgc.content = .water ∧ steamBlocked s = false then .steaming else .ready) ∧
        t.sgc.thermostat = false) ∧
      (s.sgc.state = .ready ∨ s.sgc.state = .steaming ∨ s.sgc.state = .refilling →
        t.sgc = { s.sgc with thermostat := t.sgc.thermostat, demand := t.sgc.demand } ∧
        t.sgc.thermostat = if T < 950 then true else if 980 ≤ T then false else s.sgc.thermostat) ∧
      (∀ target, s.sgc.state = .soaking → s.sgc.request = .soak target →
        t.sgc = { s.sgc with thermostat := t.sgc.thermostat, demand := t.sgc.demand } ∧
        t.sgc.thermostat = if T < target - 20 then true else if target ≤ T then false else s.sgc.thermostat) ∧
      (∀ cap : Nat → Nat, cap = (fun n => if s.sca.stage = .derate then min 12 n else n) →
        s.sgc.state = .heating → 980 ≤ T →
        (t.sgc.state = .steaming → t.sgc.demand = cap (steamDemand s)) ∧ (t.sgc.state = .ready → t.sgc.demand = 0)) ∧
      (∀ (cap : Nat → Nat) (hold : Nat), cap = (fun n => if s.sca.stage = .derate then min 12 n else n) →
        hold = (if t.sgc.thermostat = true then 16 else 0) →
        (s.sgc.state = .ready ∨ (s.sgc.state = .refilling ∧ s.sgc.prior = some .ready)
            ∨ (s.sgc.state = .soaking ∧ ∃ target, s.sgc.request = .soak target) → t.sgc.demand = cap hold) ∧
        (s.sgc.state = .steaming ∨ (s.sgc.state = .refilling ∧ s.sgc.prior = some .steaming) →
          t.sgc.demand = cap (max (steamDemand s) hold))) ∧
      (t.sgc.demand = s.sgc.demand ∨ ovenMode s = .service ∨ (load t .boiler).demand = t.sgc.demand) ∧
      (s.sgc.state = .standing → s.sgc.request = .none → cookingWant s = true → steamBlocked s = false →
        (s.sgc.content = .water → t.sgc.state = .heating ∧ t.sgc.purpose = .cook ∧ t.sgc.heatCount = 0) ∧
        (s.sgc.content = .descaler ∨ s.sgc.content = .unknown → t.sgc.state = .draining)) ∧
      (s.sgc.state = .standing → s.sgc.request = .none → cookingWant s = false ∨ steamBlocked s = true →
        t.sgc.state = .standing) ∧
      (∀ target, s.sgc.state = .standing → s.sgc.request = .soak target → s.sgc.served = false →
        t.sgc.state = .soaking ∧ t.sgc.served = true ∧ t.sgc.thermostat = decide (T < target))) ∧
  (∀ (raw T temp : Int) (c : ClimateStep) (s : State),
    RunLaw s → NextIsUserStep s → s.run.state = .active → s.run.pause.isEmpty = true →
    currentStep s = some (.climate c) → c.endCond = .reached → s.run.latched.temp = some temp →
    s.msu.cavity.fault = false → -200 ≤ raw → raw ≤ 4000 → T = filteredAfter s.msu.cavity raw → T ≤ 3000 →
    ∃ t, exec (.analogSample .cavity raw) s = .next t ∧ SameConfig s t ∧
      (temp - 20 ≤ T → StepEnded (.climate c) .condition s.run.marks s t) ∧ (T < temp - 20 → t.run = s.run)) ∧
  ∀ (raw : Int) (s : State),
    s.msu.moisture.fault = false → 2 ≤ s.msu.moisture.badRun → raw < 0 ∨ 100 < raw →
    ∃ t, exec (.analogSample .moisture raw) s = .next t ∧ SameConfig s t ∧
      (s.clc.climate.humUse = true →
        t.clc = { s.clc with humid := 500 } ∧ t.sgc.humQuanta = 8 ∧ t.sgc.share = s.sgc.share) ∧
      (s.clc.climate.humUse = false → ChangesOnly [.msu, .lif] s t)

/-- A cavity sample above 300.0 °C, and a cavity fault that sets, enter FAULT mode (R163, R169): the latch holds the cause,
every load carries FAULT_MODE and is off, COOL_FAN runs, and a run ends with FAULTED. While the latch is set, a second cause
is added and nothing of the entry is repeated (R170). -/
def Obligations.TheCavityLimitEntersFaultMode : Prop :=
  (∀ (raw : Int) (s : State),
    s.dlu.latch = false → FiringLaw s → MaskLaw s → DoorLaw s →
    (∀ c, currentStep s = some (.climate c) → c.endCond ≠ .reached) →
    (∀ T, (channel .cavity (sampleChannel .cavity raw s).1.msu).filtered = some T → 3000 < T → s.msu.cavity.fault = false →
      validRaw .cavity raw = true →
      ∃ t, exec (.analogSample .cavity raw) s = .next t ∧ SameConfig s t ∧
        t.dlu = { s.dlu with latch := true, causeLimit := true } ∧
        (s.svc.service = false → ovenMode t = .fault) ∧ t.lif.notices.faultMode = true ∧ t.ldt.aux.coolFan = true ∧
        (∀ l, (load t l).mask.faultMode = true ∧ (load t l).on = false) ∧
        (s.run.state ≠ .idle → EndsWith .faulted t)) ∧
    (s.msu.cavity.fault = false → 2 ≤ s.msu.cavity.badRun → validRaw .cavity raw = false →
      ∃ t, exec (.analogSample .cavity raw) s = .next t ∧ SameConfig s t ∧
        t.dlu = { s.dlu with latch := true, causeSensor := true } ∧
        (s.svc.service = false → ovenMode t = .fault) ∧ t.lif.notices.faultMode = true ∧ t.ldt.aux.coolFan = true ∧
        (∀ l, (load t l).mask.faultMode = true ∧ (load t l).on = false) ∧
        (s.run.state ≠ .idle → EndsWith .faulted t))) ∧
  ∀ (raw : Int) (s : State),
    s.dlu.latch = true → (∀ c, currentStep s = some (.climate c) → c.endCond ≠ .reached) →
    ∃ t, exec (.analogSample .cavity raw) s = .next t ∧ ChangesOnly [.msu, .dlu, .ldt, .lif] s t ∧
      t.ldt.aux = { s.ldt.aux with fan := t.ldt.aux.fan } ∧ (∀ l, load t l = load s l) ∧ ovenMode t = ovenMode s ∧
      (∀ T, validRaw .cavity raw = true → s.msu.cavity.fault = false ∨ 2 ≤ s.msu.cavity.goodRun →
        t.msu.cavity.filtered = some T →
        t.dlu = { s.dlu with causeLimit := s.dlu.causeLimit || decide (3000 < T) } ∧ t.lif = s.lif) ∧
      (s.msu.cavity.fault = false → 2 ≤ s.msu.cavity.badRun → validRaw .cavity raw = false →
        t.dlu = { s.dlu with causeSensor := true } ∧
        t.lif = { s.lif with notices := { s.lif.notices with sensorFault := true } })

/-- A probe sample (R7, R8, R157): presence first and debounced over three samples, the core sampled only while PRESENT, and a
removal or a core fault that sets pauses a CORE step without cap. A core sample removes PROBE and then ends the CORE step that
it meets (R148, R157). That the raw value of an invalid sample is not stored is log 30. -/
def Obligations.ProbeSamplesAreTakenInPairs : Prop :=
  (∀ (contact : Presence) (raw : Int) (s : State),
    ∃ t, exec (.probeSample contact raw) s = .next t ∧ SameConfig s t ∧ t.msu.probeSeen = true ∧
      (∀ c, c ≠ .core → channel c t.msu = channel c s.msu) ∧ t.msu.low = s.msu.low ∧ t.msu.high = s.msu.high ∧
      (s.msu.probeSeen = false → t.msu.probe = { reported := contact, changeRun := 0 }) ∧
      (s.msu.probeSeen = true → contact = s.msu.probe.reported →
        t.msu.probe = { reported := contact, changeRun := 0 }) ∧
      (s.msu.probeSeen = true → contact ≠ s.msu.probe.reported → s.msu.probe.changeRun < 2 →
        t.msu.probe = { reported := s.msu.probe.reported, changeRun := s.msu.probe.changeRun + 1 }) ∧
      (s.msu.probeSeen = true → contact ≠ s.msu.probe.reported → 2 ≤ s.msu.probe.changeRun →
        t.msu.probe = { reported := contact, changeRun := 0 }) ∧
      (t.msu.probe.reported = .present →
        t.msu.core.raw = if 0 ≤ raw ∧ raw ≤ 1200 then raw else s.msu.core.raw) ∧
      (t.msu.probe.reported = .absent → s.msu.probe.reported = .absent → s.msu.probeSeen = true →
        t.msu.core = s.msu.core ∧ t.run = s.run) ∧
      (t.msu.probe.reported = .absent → s.msu.probe.reported = .present → s.msu.probeSeen = true →
        (t.msu.core.filtered = .none ∧ t.msu.core.fault = false ∧ t.msu.core.badRun = 0 ∧ t.msu.core.goodRun = 0) ∧
        t.lif.notices = s.lif.notices ∧
        (∀ c, currentStep s = some (.climate c) → c.endCond = .core → s.run.latched.duration = .none →
          t.run.pause.probe = true) ∧
        ((∀ c, currentStep s = some (.climate c) → c.endCond ≠ .core) → t.run = s.run)) ∧
      (t.msu.probe.reported = .present → t.msu.core.fault = true → s.msu.core.fault = false →
        t.lif.notices.probeFault = true ∧
        ∀ c, currentStep s = some (.climate c) → c.endCond = .core → s.run.latched.duration = .none →
          t.run.pause.probe = true)) ∧
  ∀ (raw T k : Int) (c : ClimateStep) (s : State),
    RunLaw s → PauseLaw s → NextIsUserStep s → s.run.state = .active → currentStep s = some (.climate c) →
    c.endCond = .core → s.run.latched.core = some k → s.msu.probeSeen = true → s.msu.probe.reported = .present →
    s.msu.core.fault = false → 0 ≤ raw → raw ≤ 1200 → T = filteredAfter s.msu.core raw →
    ∃ t, exec (.probeSample .present raw) s = .next t ∧ SameConfig s t ∧
      ∀ p : PauseSet, p = { s.run.pause with probe := false } →
        (p.isEmpty = true → k ≤ T → StepEnded (.climate c) .condition s.run.marks s t) ∧
        (p.isEmpty = false ∨ T < k →
          t.run = { s.run with pause := p } ∧ ∀ l, (load t l).mask.pause = !p.isEmpty)

/-- Electrode samples (R8, R9, R98, R103): the first sets the reported levels and starts the drain of a wet boiler, an
inconsistent one changes nothing, and a later one counts each electrode toward its change. HIGH rising wet ends a fill (R86,
R88, R95, R149) and a refill (R90, R93). -/
def Obligations.ElectrodesAreDebounced : Prop :=
  (∀ (low high : Level) (s : State),
    ∃ t, exec (.electrodeSample low high) s = .next t ∧ t.msu.electrodesSeen = true ∧ SameConfig s t ∧
      (∀ c, channel c t.msu = channel c s.msu) ∧ t.msu.probe = s.msu.probe ∧
      (s.msu.electrodesSeen = false →
        t.msu.high = { reported := high, changeRun := 0 } ∧
        t.msu.low = { reported := if high = .wet then .wet else low, changeRun := 0 } ∧
        (t.msu.low.reported = .wet →
          t.sgc.state = .draining ∧ t.sgc.content = .unknown ∧ t.sgc.purpose = .idle ∧ t.ldt.aux.drainPump = true) ∧
        (t.msu.low.reported = .dry → ChangesOnly [.msu] s t)) ∧
      (s.msu.electrodesSeen = true → high = .wet → low = .dry → t = s) ∧
      (s.msu.electrodesSeen = true → ¬ (high = .wet ∧ low = .dry) →
        (low = s.msu.low.reported → t.msu.low = { reported := low, changeRun := 0 }) ∧
        (low ≠ s.msu.low.reported → s.msu.low.changeRun < 2 →
          t.msu.low = { reported := s.msu.low.reported, changeRun := s.msu.low.changeRun + 1 }) ∧
        (low ≠ s.msu.low.reported → 2 ≤ s.msu.low.changeRun → t.msu.low = { reported := low, changeRun := 0 }) ∧
        (high = s.msu.high.reported → t.msu.high = { reported := high, changeRun := 0 }) ∧
        (high ≠ s.msu.high.reported → s.msu.high.changeRun < 2 →
          t.msu.high = { reported := s.msu.high.reported, changeRun := s.msu.high.changeRun + 1 }) ∧
        (high ≠ s.msu.high.reported → 2 ≤ s.msu.high.changeRun → t.msu.high = { reported := high, changeRun := 0 }) ∧
        (low = .wet → s.msu.low.reported = .dry → 2 ≤ s.msu.low.changeRun → s.sgc.state = .empty →
          t.sgc.state = .draining ∧ t.sgc.content = .unknown ∧ t.sgc.purpose = .idle))) ∧
  (∀ (s : State),
    BoilerLaw s → s.msu.electrodesSeen = true → s.msu.high.reported = .dry → 2 ≤ s.msu.high.changeRun →
    ∃ t, exec (.electrodeSample .wet .wet) s = .next t ∧ SameConfig s t ∧
      (s.sgc.state = .filling → s.sgc.request = .none →
        t.ldt.aux.feedPump = false ∧ t.sgc.content = s.sgc.content ∧ t.sgc.soakedS = s.sgc.soakedS ∧
        (cookingWant s = true → steamBlocked s = false → boilerTempOk s = true →
          (s.sgc.content = .water → t.sgc.state = .heating ∧ t.sgc.purpose = .cook ∧ t.sgc.heatCount = 0) ∧
          (s.sgc.content = .descaler ∨ s.sgc.content = .unknown → t.sgc.state = .draining)) ∧
        (cookingWant s = false ∨ steamBlocked s = true ∨ boilerTempOk s = false →
          t.sgc.state = .standing ∧ t.sgc.purpose = s.sgc.purpose)) ∧
      (∀ c, s.sgc.state = .filling → s.sgc.request = .fill c →
        s.run.state ≠ .active ∨ s.run.pause.isEmpty = false →
        t.sgc.state = .standing ∧ t.sgc.request = .fill c ∧ t.sgc.served = true ∧ t.ldt.aux.feedPump = false ∧
        t.sgc.content = s.sgc.content ∧ t.run = { s.run with degraded := t.run.degraded }) ∧
      (∀ target want secs, s.sgc.state = .filling ∨ s.sgc.state = .refilling → s.sgc.request = .soak target →
        currentStep s = some (.boilerSoak want secs) →
        t.ldt.aux.feedPump = false ∧ t.sgc.content = s.sgc.content ∧
        (boilerTempOk s = true → t.sgc.state = .soaking ∧ t.sgc.served = true) ∧
        (s.sgc.state = .filling → boilerTempOk s = false → t.sgc.state = .standing ∧ t.sgc.served = false)) ∧
      (s.sgc.state = .refilling → s.sgc.request = .none →
        t.ldt.aux.feedPump = false ∧ t.sgc.content = s.sgc.content ∧
        t.run = { s.run with degraded := t.run.degraded } ∧
        (cookingWant s = false → t.sgc.state = .standing) ∧
        (cookingWant s = true → t.sgc.thermostat = s.sgc.thermostat ∧
          t.sgc.state = if 0 < steamDemand s ∧ s.sgc.content = .water ∧ steamBlocked s = false then .steaming
            else .ready))) ∧
  ∀ (slot pos secs : Nat) (c : FillContent) (want T : Int) (s : State),
    slot ≤ 1 → s.run.slot = some slot → s.run.position = some pos → s.run.state = .active → s.run.pause.isEmpty = true →
    stepAt s slot pos = some (.boilerFill c) → stepAt s slot (pos + 1) = some (.boilerSoak want secs) →
    s.sgc.state = .filling → s.sgc.request = .fill c → s.msu.boiler.fault = false → s.msu.boiler.filtered = some T →
    s.msu.electrodesSeen = true → s.msu.high.reported = .dry → 2 ≤ s.msu.high.changeRun →
    ∃ t, exec (.electrodeSample .wet .wet) s = .next t ∧ SameConfig s t ∧
      t.run.lastEnd = some { position := pos, cause := .condition, marks := s.run.marks } ∧
      t.lif.notices.stepEnded = true ∧ t.run.position = some (pos + 1) ∧ t.run.state = .active ∧
      t.run.latched = { temp := some want, duration := some secs } ∧
      t.sgc.state = .soaking ∧ t.sgc.request = .soak want ∧ t.sgc.served = true ∧
      t.sgc.thermostat = decide (T < want) ∧ t.sgc.content = s.sgc.content ∧ t.sgc.soakedS = s.sgc.soakedS ∧
      t.ldt.aux.feedPump = false

/-- LOW falling dry in READY or STEAMING is one evaporation (R92, R105, R107): the deposit goes into the account, and the
boiler refills. -/
def Obligations.EvaporationDepositsScale : Prop :=
  ∀ (s : State),
    BoilerLaw s → ScaleLaw s → s.msu.electrodesSeen = true → s.msu.low.reported = .wet → 2 ≤ s.msu.low.changeRun →
    s.sgc.state = .ready ∨ s.sgc.state = .steaming →
    ∃ t, exec (.electrodeSample .dry .dry) s = .next t ∧ SameConfig s t ∧
      t.sca = { s.sca with
        scaleMg := min 65535 (s.sca.scaleMg + (s.sca.fillMl * s.sca.hardness + 500) / 1000), stage := t.sca.stage } ∧
      t.sca.stage = stageOf t.sca ∧
      t.sgc.state = .refilling ∧ t.sgc.prior.isSome = true ∧ t.sgc.fillTimer = 0 ∧ t.ldt.aux.feedPump = true ∧
      t.sgc.thermostat = s.sgc.thermostat ∧ t.sgc.content = s.sgc.content ∧ t.sgc.request = s.sgc.request ∧
      t.run = { s.run with degraded := t.run.degraded } ∧
      (load t .boiler).mask.scale
        = (t.sca.stage == .lock && (s.sgc.purpose == .cook || s.sgc.purpose == .idle))

/-! ## The mains -/

/-- A mains sample takes the value of a half-cycle record completed since the channel's last one, and is skipped where there
is none or leg B is not in use (R1, R11). -/
def Obligations.MainsSamplesTakeHalfCycles : Prop :=
  ∀ (input : MainsInput) (s : State),
    ∃ t, exec (.mainsSample input) s = .next t ∧ ChangesOnly [.msu, .lif] s t ∧
      (∀ c, c ≠ mainsChannel input → channel c t.msu = channel c s.msu) ∧ t.msu.latest = s.msu.latest ∧
      (∀ r, s.msu.latest = some r → input = .voltage → s.msu.freshV = true →
        t.msu.voltage = (sampleAnalog (decide (1500 ≤ r.volts ∧ r.volts ≤ 2800)) r.volts s.msu.voltage).1
          ∧ t.msu.freshV = false) ∧
      (∀ r, s.msu.latest = some r → input = .legA → s.msu.freshA = true →
        t.msu.ampsA = (sampleAnalog (decide (r.ampsA ≤ 40000)) r.ampsA s.msu.ampsA).1 ∧ t.msu.freshA = false) ∧
      (∀ r i, s.msu.latest = some r → input = .legB → s.msu.freshB = true → s.par.supply.connection = .dual →
        r.ampsB = some i →
        t.msu.ampsB = (sampleAnalog (decide (i ≤ 40000)) i s.msu.ampsB).1 ∧ t.msu.freshB = false) ∧
      (s.msu.latest = .none ∨ (input = .voltage ∧ s.msu.freshV = false) ∨ (input = .legA ∧ s.msu.freshA = false)
          ∨ (input = .legB ∧ (s.msu.freshB = false ∨ s.par.supply.connection = .single)) →
        channel (mainsChannel input) t.msu = channel (mainsChannel input) s.msu ∧ t.lif = s.lif)

/-- A zero-cross that comes too soon is ignored (R10); a qualified one inside a slot opens the next half-cycle (R41), and
at the end of half-cycle 4 of a solo slot it switches the measured loads on, those that may fire (R26, R44). The row
SOLO_BASELINE_END is that zero-cross (log 4). -/
def Obligations.HalfCyclesAreCounted : Prop :=
  ∀ (z : Crossing) (s : State),
    (s.msu.zcSeen = true → z.intervalUs < 6000 → ∃ t, exec (.zeroCross z) s = .next t ∧ t = s) ∧
    (s.msu.zcSeen = false ∨ 6000 ≤ z.intervalUs → s.par.frame.state = .firing →
      s.par.frame.half < s.par.frame.inForce.slotHc →
      (∃ t, exec (.zeroCross z) s = .next t ∧ ChangesOnly [.msu, .par, .ldt] s t ∧
        t.par = { s.par with frame := { s.par.frame with half := s.par.frame.half + 1 } } ∧
        t.msu.zcSeen = true ∧ t.msu.halfOpen = true ∧ t.ldt.aux = s.ldt.aux ∧
        (s.msu.halfOpen = true → z.intervalUs ≤ 40000 →
          t.msu.latest = some { volts := z.volts, ampsA := z.ampsA
                                ampsB := if s.msu.legBOpen then some z.ampsB else .none }) ∧
        (s.msu.halfOpen = false ∨ 40000 < z.intervalUs → t.msu.latest = s.msu.latest) ∧
        (s.par.frame.half ≠ 4 → t.ldt.loads = s.ldt.loads)) ∧
      (s.par.frame.half = 4 →
        (slotOf s.par.frame.grid s.par.frame.slot).soloA.isSome = true
          ∨ (slotOf s.par.frame.grid s.par.frame.slot).soloB.isSome = true →
        ∃ t, exec (.soloBaselineEnd z) s = .next t ∧ exec (.zeroCross z) s = .next t ∧ t.par.frame.half = 5 ∧
          ∀ l, load t l = { load s l with
            on := (load s l).on
              || (isSolo (slotOf s.par.frame.grid s.par.frame.slot) l && (load s l).mask.isEmpty
                && !s.par.frame.withdrawn.get l) }))

/-- The end of a slot (R25 to R29, R32, R33, R41, R43, R57): a measurement that stands is judged and no other is; each leg is
checked for an overload; and the next slot opens at half-cycle 1 with the loads it places, those that may fire and are not
about to be measured. A reason added earlier in the frame voids a measurement at its opening (log 31); the row SLOT_END is
that zero-cross (log 4). -/
def Obligations.SlotsFollowOneAnother : Prop :=
  ∀ (z : Crossing) (s : State),
    FiringLaw s → SoloLaw s → endsSlot z s = true → s.par.frame.slot < 15 →
    ∃ t, exec (.slotEnd z) s = .next t ∧ exec (.zeroCross z) s = .next t ∧ ChangesOnly [.msu, .par, .ldt, .lif] s t ∧
      t.par = { s.par with frame := { s.par.frame with
        slot := s.par.frame.slot + 1, half := 1, withdrawn := t.par.frame.withdrawn } } ∧
      (∀ l, (load t l).on =
        ((slotOf s.par.frame.grid (s.par.frame.slot + 1)).placed.get l
          && !isSolo (slotOf s.par.frame.grid (s.par.frame.slot + 1)) l
          && (load t l).mask.isEmpty && !t.par.frame.withdrawn.get l)) ∧
      (∀ l, (load t l).demand = (load s l).demand ∧ (load t l).served = (load s l).served
        ∧ (load t l).shortfall = (load s l).shortfall) ∧
      (∀ g m w, finalMeasurement z s g = some m → stands s m = true →
        w = measuredPower s.par.frame.inForce.slotHc m →
        (load t m.load).measuredW = some w ∧
        (load t m.load).health = healthBand (w * 100 / (load s m.load).ratedW) ∧
        (load t m.load).mask.health
          = ((load t m.load).health == .opened || (load t m.load).health == .high) ∧
        ((load t m.load).health ≠ .good → t.lif.notices.loadFault = true) ∧
        (load t m.load).verifyDue = legOverloaded z s (s.par.frame.inForce.leg.get m.load)) ∧
      (∀ l, (∀ g m, finalMeasurement z s g = some m → m.load = l → stands s m = false) →
        (load t l).measuredW = (load s l).measuredW ∧ (load t l).health = (load s l).health ∧
        (load t l).mask.health = (load s l).mask.health ∧
        (load t l).verifyDue = ((load s l).verifyDue || legOverloaded z s (s.par.frame.inForce.leg.get l))) ∧
      ((∀ g m, finalMeasurement z s g = some m → stands s m = true → (load t m.load).health = .good) →
        t.lif.notices.loadFault = s.lif.notices.loadFault) ∧
      (∀ l, (load t l).mask.overload
          = ((load s l).mask.overload || legOverloaded z s (s.par.frame.inForce.leg.get l)) ∧
        t.par.frame.withdrawn.get l
          = (s.par.frame.withdrawn.get l || ((load t l).mask.overload && !(load s l).mask.overload)
            || ((load t l).mask.health && !(load s l).mask.health))) ∧
      t.lif.notices.overload = (s.lif.notices.overload || legOverloaded z s .a || legOverloaded z s .b) ∧
      ∀ g, legMeasurement t g = (soloOn (slotOf s.par.frame.grid (s.par.frame.slot + 1)) g).map fun l =>
        { load := l, count := 0, offSum := 0, onSum := 0, voltSum := 0
          void := !((load t l).mask.isEmpty && !t.par.frame.withdrawn.get l) }

/-- A frame begins (R11, R40 to R42, R46, R51 to R54): at the first zero-cross, at the return of the supply and at the frame
boundary, OVERLOAD goes, the schedule is built on the lists as they stood, and slot 0 opens; a running pattern has advanced
before the build at a frame boundary (R192) and nowhere else. The row FRAME_BOUNDARY is the last of the three (log 4). At the
frame boundary the measurement of slot 15 is judged and the legs are checked for an overload first (R29, R32, R33). -/
def Obligations.FramesAreBuiltAndOpened : Prop :=
  ∀ (z : Crossing) (s : State),
    qualified z s = true → s.par.frame.state ≠ .firing ∨ endsFrame z s = true →
    ∃ t, exec (.zeroCross z) s = .next t ∧ (endsFrame z s = true → exec (.frameBoundary z) s = .next t) ∧
      ChangesOnly [.msu, .par, .ldt, .lif, .svc] s t ∧
      t.lif = { s.lif with notices := { s.lif.notices with
        loadFault := t.lif.notices.loadFault, overload := t.lif.notices.overload } } ∧
      (endsFrame z s = false → t.lif = s.lif ∧ ∀ l, (load t l).measuredW = (load s l).measuredW
        ∧ (load t l).health = (load s l).health ∧ (load t l).mask.health = (load s l).mask.health
        ∧ (load t l).verifyDue = (load s l).verifyDue) ∧
      (endsFrame z s = true → FiringLaw s → SoloLaw s →
        (∀ g m w, finalMeasurement z s g = some m → stands s m = true →
          w = measuredPower s.par.frame.inForce.slotHc m →
          (load t m.load).measuredW = some w ∧
          (load t m.load).health = healthBand (w * 100 / (load s m.load).ratedW) ∧
          (load t m.load).mask.health
            = ((load t m.load).health == .opened || (load t m.load).health == .high) ∧
          ((load t m.load).health ≠ .good → t.lif.notices.loadFault = true)) ∧
        (∀ l, (∀ g m, finalMeasurement z s g = some m → m.load = l → stands s m = false) →
          (load t l).measuredW = (load s l).measuredW ∧ (load t l).health = (load s l).health ∧
          (load t l).mask.health = (load s l).mask.health) ∧
        ((∀ g m, finalMeasurement z s g = some m → stands s m = true → (load t m.load).health = .good) →
          t.lif.notices.loadFault = s.lif.notices.loadFault) ∧
        t.lif.notices.overload = (s.lif.notices.overload || legOverloaded z s .a || legOverloaded z s .b) ∧
        ∀ l, (∀ w, s.svc.pattern = .walk w → (loadByte l).toNat ≠ ((loadByte w).toNat + 1) % 5) →
          ((∃ g m, finalMeasurement z s g = some m ∧ m.load = l ∧ stands s m = true) →
            (load t l).verifyDue = legOverloaded z s (s.par.frame.inForce.leg.get l)) ∧
          ((∀ g m, finalMeasurement z s g = some m → m.load = l → stands s m = false) →
            (load t l).verifyDue
              = ((load s l).verifyDue || legOverloaded z s (s.par.frame.inForce.leg.get l)))) ∧
      (∀ g, legMeasurement t g = (soloOn (slotOf t.par.frame.grid 0) g).map fun l =>
        { load := l, count := 0, offSum := 0, onSum := 0, voltSum := 0, void := !(load t l).mask.isEmpty }) ∧
      t.par.frame.state = .firing ∧ t.par.frame.slot = 0 ∧ t.par.frame.half = 1 ∧
      (∀ l, t.par.frame.withdrawn.get l = false) ∧ t.par.supply = s.par.supply ∧ t.par.placement = s.par.placement ∧
      t.par.policies = s.par.policies ∧ t.msu.legBTail = false ∧
      t.par.frame.inForce = valuesNow t ∧
      (∀ l, (load t l).mask.overload = false ∧ (s.par.frame.state = .halted → (load t l).mask.supply = false)) ∧
      (∀ l, (load t l).served = quantaIn t.par.frame.grid l
        ∧ (load t l).shortfall = (load t l).demand - (load t l).served) ∧
      (∀ l, (load t l).on = ((slotOf t.par.frame.grid 0).placed.get l && !isSolo (slotOf t.par.frame.grid 0) l
        && (load t l).mask.isEmpty)) ∧
      t.par.frame.grid = schedule { t with par := { t.par with lists := s.par.lists } } ∧
      (s.par.frame.state = .waiting → t.par.frame.grid = schedule (removeReasonFrom .overload allLoads s)) ∧
      (∀ l, endsFrame z s = true → s.svc.pattern = .walk l →
        ∃ k, t.svc = { s.svc with pattern := .walk k } ∧ (loadByte k).toNat = ((loadByte l).toNat + 1) % 5 ∧
          (load t k).verifyDue = true ∧
          ∀ j, (load t j).demand = (if j = k then 16 else 0) ∧ (load t j).mask.forceOff = decide (j ≠ k)) ∧
      (∀ g h, endsFrame z s = true → s.svc.pattern = .alternate g → h = (if g = .even then .odd else .even) →
        t.svc = { s.svc with pattern := .alternate h } ∧
        ∀ j, (load t j).demand = (if (j = .top ∨ j = .ring ∨ j = .boiler ↔ h = .even) then 16 else 0) ∧
          (load t j).mask.forceOff = !decide (j = .top ∨ j = .ring ∨ j = .boiler ↔ h = .even)) ∧
      (endsFrame z s = false ∨ s.svc.pattern = .none ∨ s.svc.pattern = .allOff →
        t.svc = s.svc ∧
        ∀ j, (load t j).demand = (load s j).demand ∧ (load t j).mask.forceOff = (load s j).mask.forceOff)

/-- After each build every ROTATING class is rotated on what the new frame serves, and a FIXED class's list does not move
(R55). -/
def Obligations.BuildsRotateTheClasses : Prop :=
  ∀ (z : Crossing) (s : State),
    ListLaw s → qualified z s = true → s.par.frame.state ≠ .firing ∨ endsFrame z s = true →
    ∃ t, exec (.zeroCross z) s = .next t ∧
      ∀ c, c ≤ 3 →
        (s.par.policies.get c = .fixed → t.par.lists.get c = s.par.lists.get c) ∧
        (s.par.policies.get c = .rotating →
          ((∀ l, l ∈ s.par.lists.get c → (load t l).served = 0) → t.par.lists.get c = s.par.lists.get c) ∧
          ∀ pre l post, s.par.lists.get c = pre ++ l :: post → (∀ k, k ∈ pre → (load t k).served = 0) →
            1 ≤ (load t l).served → t.par.lists.get c = pre ++ post ++ [l])

/-- The schedule of a build (R51 to R54): a load never holds more quanta than its demand, an ineligible load holds none, each
load has at most one solo slot, and only a load that is due, and no leg of a slot is filled past its capacity. The i-th load
of a leg that is due and fits has its solo slot at the i-th place of the placement order, and a load that is short of its
demand holds every slot that is not solo on its leg and has room beside the loads before it in the priority order. -/
def Obligations.SchedulesKeepDemandAndCapacity : Prop :=
  ∀ (s : State), ListLaw s →
    (schedule s).length = 16 ∧
    (∀ l, quantaIn (schedule s) l ≤ (load s l).demand) ∧
    (∀ l, eligible s l = false → quantaIn (schedule s) l = 0) ∧
    (∀ l, ((schedule s).filter fun t => isSolo t l).length ≤ 1) ∧
    (∀ l n, isSolo (slotOf (schedule s) n) l = true → (load s l).verifyDue = true) ∧
    (∀ n g, legSum (valuesNow s) (slotOf (schedule s) n) g ≤ (valuesNow s).cap g) ∧
    (∀ n g l, soloOn (slotOf (schedule s) n) g = some l →
      ∀ k, placedOn (valuesNow s) (slotOf (schedule s) n) g k = (k == l)) ∧
    (∀ g i l, (soloClaims s g)[i]? = some l → soloOn (slotOf (schedule s) (s.par.placement.getD i 0)) g = some l) ∧
    ∀ (l : LoadId) (n : Nat) (f : InForce) (order : List LoadId),
      f = valuesNow s → order = priorityOrder s.par.lists → eligible s l = true → n < 16 →
      (slotOf (schedule s) n).placed.get l = false → (soloOn (slotOf (schedule s) n) (f.leg.get l)).isNone = true →
      f.cap (f.leg.get l) < earlierSum f order (slotOf (schedule s) n) l + f.charge.get l ∨
        (quantaIn (schedule s) l = (load s l).demand ∧
          ∀ m, m < 16 → (slotOf (schedule s) m).placed.get l = true → isSolo (slotOf (schedule s) m) l = false →
            s.par.placement.idxOf m < s.par.placement.idxOf n)

/-- The power of a solo measurement (R28): means over the windows of R26, a rise that is never negative, a round half up, and
the clamp to 11200 W, which half-cycle values inside the windows never meet. -/
def Obligations.MeasuredPowerIsTheRise : Prop :=
  ∀ (l : LoadId) (hc : Nat) (rs : List (Nat × Nat)),
    20 ≤ hc → rs.length = hc →
    (measure l rs).count = hc ∧ (measure l rs).void = false ∧
    ∀ off on volts rise w,
      off = ((rs.take 4).map Prod.snd).sum / 4 → on = ((rs.drop 4).map Prod.snd).sum / (hc - 4) →
      volts = ((rs.drop 4).map Prod.fst).sum / (hc - 4) → rise = (if on < off then 0 else on - off) →
      w = (volts * rise + 5000) / 10000 →
      (measuredPower hc (measure l rs) = if 11200 < w then 11200 else w) ∧
      ((∀ p, p ∈ rs → p.1 ≤ 2800 ∧ p.2 ≤ 40000) → w ≤ 11200)

/-- The loss of the supply (R10, R20, R45): the frame halts where it stands, every load carries SUPPLY and is off, open
measurements are void, and the half-cycle record is discarded. That a loss outside FIRING changes nothing is the model's
choice (log 3). -/
def Obligations.SupplyLossHaltsTheFrame : Prop :=
  ∀ (s : State), FiringLaw s →
    (s.par.frame.state = .firing →
      ∃ t, exec .supplyLoss s = .next t ∧ ChangesOnly [.par, .ldt, .msu] s t ∧ SameConfig s t ∧
        t.par.frame = { s.par.frame with state := .halted, withdrawn := t.par.frame.withdrawn } ∧
        (∀ l, (load t l).mask.supply = true ∧ (load t l).on = false ∧ (load t l).served = (load s l).served
          ∧ (load t l).shortfall = (load s l).shortfall ∧ (load t l).demand = (load s l).demand) ∧
        (∀ m, t.ldt.measA = some m → m.void = true) ∧ (∀ m, t.ldt.measB = some m → m.void = true) ∧
        t.msu.latest = .none ∧ t.msu.halfOpen = false ∧ t.ldt.aux = s.ldt.aux ∧
        ∀ c, channel c t.msu = channel c s.msu) ∧
    (s.par.frame.state ≠ .firing → ∃ t, exec .supplyLoss s = .next t ∧ t = s)

/-! ## The door, the climate, the boiler's clock and the step tick -/

/-- The door (R76, R144, R166 to R168, R23): a level change restarts the debounce timer; its expiry opens or closes the door
where the level differs from the door state. -/
def Obligations.TheDoorIsDebounced : Prop :=
  ∀ (s : State),
    (∀ level, ∃ t, exec (.doorSwitchChange level) s = .next t ∧
      t = { s with dlu := { s.dlu with input := level, debounce := true } }) ∧
    (s.dlu.debounce = true → s.dlu.input = .opened → s.dlu.door ≠ .opened → FiringLaw s → PauseLaw s →
      ∃ t, exec .doorDebounceExpiry s = .next t ∧ ChangesOnly [.dlu, .ldt, .par, .run, .lif] s t ∧ SameConfig s t ∧
        t.dlu = { s.dlu with door := .opened, debounce := false } ∧ t.ldt.aux.fan = .off ∧ t.ldt.aux.lamp = true ∧
        (∀ l, l ≠ .boiler → (load t l).mask.door = true ∧ (load t l).on = false) ∧
        (load t .boiler).mask.door = (load s .boiler).mask.door ∧
        t.run = { s.run with pause := { s.run.pause with door := takesPause s.run.state .door } } ∧
        (takesPause s.run.state .door = true → s.run.pause.door = false → t.lif.notices.doorPause = true) ∧
        ∀ l, (load t l).mask.pause = !t.run.pause.isEmpty) ∧
    (s.dlu.debounce = true → s.dlu.input = .closed → s.dlu.door ≠ .closed →
      ∃ t, exec .doorDebounceExpiry s = .next t ∧ SameConfig s t ∧
        t.dlu = { s.dlu with door := .closed, debounce := false } ∧
        (∀ l, l ≠ .boiler → (load t l).mask.door = false) ∧ t.run.pause.door = false ∧
        t.ldt.aux.lamp = (ovenMode t == .running) ∧
        (t.clc.climate.kind ≠ .none → t.ldt.aux.fan = t.clc.climate.entry.fan) ∧
        (t.clc.climate.kind = .none →
          (∀ T, s.msu.cavity.filtered = some T → t.ldt.aux.fan = if 600 < T then .low else .off) ∧
          (s.msu.cavity.filtered = .none → t.ldt.aux.fan = .off)) ∧
        ((∀ st, currentStep s = some st → isUserStep st = true) → s.run.state ≠ .ending →
          ChangesOnly [.dlu, .ldt, .run] s t ∧ t.run = { s.run with pause := { s.run.pause with door := false } } ∧
          (PauseLaw s → ∀ l, (load t l).mask.pause = !t.run.pause.isEmpty))) ∧
    (s.dlu.debounce = true →
      (s.dlu.input = .opened ∧ s.dlu.door = .opened) ∨ (s.dlu.input = .closed ∧ s.dlu.door = .closed) →
      ∃ t, exec .doorDebounceExpiry s = .next t ∧ t = { s with dlu := { s.dlu with debounce := false } })

/-- A loop update with the temperature loop in use and T present forms H in the five stages of R68, and holds I16 where R69
says so; H and I16 stay in their ranges, and the element demands are written, paused or not. -/
def Obligations.LoopUpdatesFormTheHeat : Prop :=
  ∀ (s : State) (T S e P I raw : Int),
    s.clc.loopTimer.isSome = true → s.clc.climate.tempUse = true → s.clc.climate.setpoint = some S →
    s.msu.cavity.fault = false → s.msu.cavity.filtered = some T →
    e = max (-1000) (min 1000 (S - T)) → P = ((s.clc.loop.kp : Int) * e).tdiv 64 →
    I = max 0 (min 16000 ((s.clc.integral : Int) + ((s.clc.loop.ki : Int) * e).tdiv 16)) → raw = P + I / 16 →
    ∃ t, exec .loopUpdate s = .next t ∧ (t.clc.heat : Int) = max 0 (min 1000 raw) ∧
      ((1000 < raw ∧ 0 < e) ∨ (raw < 0 ∧ e < 0) ∨ s.run.pause.isEmpty = false → t.clc.integral = s.clc.integral) ∧
      (¬ (1000 < raw ∧ 0 < e) → ¬ (raw < 0 ∧ e < 0) → s.run.pause.isEmpty = true → (t.clc.integral : Int) = I) ∧
      t.clc.heat ≤ 1000 ∧ (s.clc.integral ≤ 16000 → t.clc.integral ≤ 16000) ∧
      (ovenMode s ≠ .service →
        (load t .top).demand = t.clc.demands.top ∧ (load t .bottom).demand = t.clc.demands.bottom ∧
        (load t .ring).demand = t.clc.demands.ring ∧ (load t .grill).demand = t.clc.demands.grill)

/-- A loop update splits H by the entry's weights and hands the boiler share on (R18, R67, R72), restarts the timer, and leaves
the climate, the configuration and the run as they stand. With the loop not in use, the cavity faulted or T not present it
follows the cases of R71; G follows R73 and R74, and VENT R75. -/
def Obligations.LoopUpdatesSplitTheHeat : Prop :=
  (∀ (s : State),
    s.clc.loopTimer.isSome = true → s.clc.climate.kind ≠ .none → s.clc.climate.tempUse = true →
    s.clc.climate.setpoint.isSome = true → s.msu.cavity.filtered.isSome = true →
    ∃ t, exec .loopUpdate s = .next t ∧ ChangesOnly [.clc, .sgc, .sca, .ldt, .par, .run] s t ∧ SameConfig s t ∧
      t.run = { s.run with degraded := t.run.degraded } ∧
      t.clc.climate = s.clc.climate ∧ t.clc.loopTimer = some s.clc.loop.period ∧
      (∀ q : Nat → Nat, q = (fun w => (t.clc.heat * w * 16 + 50000) / 100000) →
        t.clc.demands = { top := q s.clc.climate.entry.top, bottom := q s.clc.climate.entry.bottom
                          ring := q s.clc.climate.entry.ring, grill := q s.clc.climate.entry.grill } ∧
        t.sgc.share = q s.clc.climate.entry.boiler) ∧
      (ovenMode s ≠ .service →
        (load t .top).demand = t.clc.demands.top ∧ (load t .bottom).demand = t.clc.demands.bottom ∧
        (load t .ring).demand = t.clc.demands.ring ∧ (load t .grill).demand = t.clc.demands.grill) ∧
      (ovenMode s = .service → ∀ l, (load t l).demand = (load s l).demand) ∧
      t.sgc.humQuanta = (t.clc.humid * 16 + 500) / 1000) ∧
  ∀ (s : State),
    s.clc.loopTimer.isSome = true →
    ∃ t, exec .loopUpdate s = .next t ∧ SameConfig s t ∧ t.clc.climate = s.clc.climate ∧
      (s.clc.climate.tempUse = false ∨ s.clc.climate.setpoint = .none → t.clc.heat = 0 ∧ t.clc.integral = 0) ∧
      (s.clc.climate.tempUse = true → s.clc.climate.setpoint.isSome = true → s.msu.cavity.fault = true →
        t.clc.heat = 0 ∧ t.clc.integral = s.clc.integral) ∧
      (s.clc.climate.tempUse = false ∨ s.clc.climate.setpoint = .none ∨ s.msu.cavity.fault = true →
        t.clc.demands = { top := 0, bottom := 0, ring := 0, grill := 0 } ∧ t.sgc.share = 0 ∧
        (ovenMode s ≠ .service → ∀ l, l ≠ .boiler → (load t l).demand = 0)) ∧
      (s.clc.climate.tempUse = true → s.clc.climate.setpoint.isSome = true → s.msu.cavity.fault = false →
        s.msu.cavity.filtered = .none →
        t.clc.heat = s.clc.heat ∧ t.clc.integral = s.clc.integral ∧ t.clc.demands = s.clc.demands ∧
        t.sgc.share = s.sgc.share ∧ ∀ l, l ≠ .boiler → (load t l).demand = (load s l).demand) ∧
      (s.clc.climate.humUse = false ∨ s.clc.climate.humSet = .none → t.clc.humid = 0) ∧
      (∀ hs, s.clc.climate.humUse = true → s.clc.climate.humSet = some hs →
        (s.msu.moisture.fault = true → t.clc.humid = 500 ∧ t.sgc.humQuanta = 8) ∧
        (s.msu.moisture.fault = false → s.msu.moisture.filtered = .none → t.clc.humid = s.clc.humid) ∧
        ∀ h, s.msu.moisture.fault = false → s.msu.moisture.filtered = some h →
          (t.clc.humid : Int) = max 0 (min 1000 ((s.clc.loop.ks : Int) * (hs - h) * 10))) ∧
      t.sgc.humQuanta = (t.clc.humid * 16 + 500) / 1000 ∧
      (s.clc.climate.kind = .none → t.ldt.aux.vent = false) ∧
      (s.clc.climate.kind ≠ .none → s.clc.climate.vent = .opened → t.ldt.aux.vent = true) ∧
      (s.clc.climate.kind ≠ .none → s.clc.climate.vent = .auto →
        (s.clc.climate.humUse = false ∨ s.clc.climate.humSet = .none →
          t.ldt.aux.vent = decide (s.clc.climate.entry.boiler = 0)) ∧
        ∀ hs, s.clc.climate.humUse = true → s.clc.climate.humSet = some hs →
          (s.msu.moisture.fault = true ∨ s.msu.moisture.filtered = .none → t.ldt.aux.vent = s.ldt.aux.vent) ∧
          ∀ h, s.msu.moisture.fault = false → s.msu.moisture.filtered = some h →
            t.ldt.aux.vent = if hs + s.clc.loop.band < h then true else if h ≤ hs then false else s.ldt.aux.vent)

/-- A tick that ends nothing: the boiler's advances the timer or count of the boiler's state (R86 to R88, R96, R97), the step
tick counts while the run is ACTIVE and unpaused and counts the keep-warm time in HOLDING (R147, R160), and neither does
anything else. -/
def Obligations.TicksCount : Prop :=
  ∀ (s : State),
    (s.sgc.state = .filling ∨ s.sgc.state = .refilling → s.sgc.fillTimer < 89 →
      ∃ t, exec .sgcClockTick s = .next t ∧ t = { s with sgc := { s.sgc with fillTimer := s.sgc.fillTimer + 1 } }) ∧
    (s.sgc.state = .heating → (load s .boiler).mask.isEmpty = true → s.sgc.heatCount < 599 →
      ∃ t, exec .sgcClockTick s = .next t ∧ t = { s with sgc := { s.sgc with heatCount := s.sgc.heatCount + 1 } }) ∧
    (s.sgc.state = .heating → (load s .boiler).mask.isEmpty = false → ∃ t, exec .sgcClockTick s = .next t ∧ t = s) ∧
    (∀ n, s.sgc.state = .draining → s.sgc.drainCount = some n → n < 39 →
      ∃ t, exec .sgcClockTick s = .next t ∧ t = { s with sgc := { s.sgc with drainCount := some (n + 1) } }) ∧
    (s.sgc.state = .draining → s.sgc.drainCount = .none → ∃ t, exec .sgcClockTick s = .next t ∧ t = s) ∧
    (∀ n target T, s.sgc.state = .soaking → s.sgc.soakedS = some n → s.sgc.request = .soak target →
      s.msu.boiler.filtered = some T → s.run.pause.isEmpty = true →
      (target - 20 ≤ T → n < 65535 → (∀ d, s.run.latched.duration = some d → n + 1 < d) →
        ∃ t, exec .sgcClockTick s = .next t ∧ t = { s with sgc := { s.sgc with soakedS := some (n + 1) } }) ∧
      (T < target - 20 → ∃ t, exec .sgcClockTick s = .next t ∧ t = s)) ∧
    (s.sgc.state = .soaking → s.run.pause.isEmpty = false → ∃ t, exec .sgcClockTick s = .next t ∧ t = s) ∧
    (s.sgc.state = .empty ∨ s.sgc.state = .standing ∨ s.sgc.state = .ready ∨ s.sgc.state = .steaming
        ∨ s.sgc.state = .fault → ∃ t, exec .sgcClockTick s = .next t ∧ t = s) ∧
    (s.run.state = .active → s.run.pause.isEmpty = true →
      (∀ c d, currentStep s = some (.climate c) → s.run.latched.duration = some d →
        c.endCond = .confirm ∨ min 65535 (s.run.elapsedS + 1) < d) →
      ∃ t, exec .stepTick s = .next t ∧
        t = { s with run := { s.run with
          elapsedS := min 65535 (s.run.elapsedS + 1), totalS := min 65535 (s.run.totalS + 1) } }) ∧
    (s.run.state = .holding → s.run.holdS < 3599 →
      ∃ t, exec .stepTick s = .next t ∧ t = { s with run := { s.run with holdS := s.run.holdS + 1 } }) ∧
    (s.run.state = .idle ∨ s.run.state = .awaitConfirm ∨ s.run.state = .ending
        ∨ (s.run.state = .active ∧ s.run.pause.isEmpty = false) →
      ∃ t, exec .stepTick s = .next t ∧ t = s)

/-- The ends of a fill, a refill and a heating by their timers (R87, R88, R94, R99, R156); each row is the tick that
reaches the limit (log 4). A boiler sample above 130.0 °C and a fault of the boiler's temperature channel that sets are the
other two entries of FAULT (R99). A fault of that channel that clears in STANDING is judged first, and the sample event that
follows it is taken in the state entered (R13, R88, R95). -/
def Obligations.TimersEndFillsAndHeating : Prop :=
  ∀ (s : State), BoilerLaw s →
    (∀ (i : Instr) (b : BoilerState),
      (i = .fillTimeout ∧ b = .filling) ∨ (i = .refillTimeout ∧ b = .refilling) →
      s.sgc.state = b → 89 ≤ s.sgc.fillTimer → s.msu.high.reported = .dry →
      ∃ t, exec i s = .next t ∧ SameConfig s t ∧ t.sca.scaleMg = s.sca.scaleMg ∧
        t.sgc.tankEmpty = true ∧ t.lif.notices.tankEmpty = true ∧ t.ldt.aux.feedPump = false ∧
        (b = .filling → s.msu.low.reported = .dry → t.sgc.state = .empty ∧ t.sgc.content = .none ∧ t.sgc.purpose = .idle
          ∧ t.sgc.soakedS = .none ∧ t.ldt.aux.drainPump = false) ∧
        (b = .refilling ∨ s.msu.low.reported = .wet → t.sgc.state = .draining ∧ t.sgc.content = s.sgc.content
          ∧ t.sgc.purpose = s.sgc.purpose ∧ t.ldt.aux.drainPump = true
          ∧ t.sgc.drainCount = if s.msu.low.reported = .dry then some 0 else .none) ∧
        t.sgc.request = s.sgc.request ∧ t.sgc.served = false ∧
        t.run = { s.run with
          pause := { s.run.pause with
            tank := s.run.pause.tank || ((currentStep s).map (needsBoiler s)).getD false }
          degraded := t.run.degraded }) ∧
    (s.sgc.state = .heating → (load s .boiler).mask.isEmpty = true → 599 ≤ s.sgc.heatCount →
      ∃ t, exec .heatTimeout s = .next t ∧ ChangesOnly [.sgc, .ldt, .par, .lif, .run] s t ∧ SameConfig s t ∧
        t.sgc.state = .fault ∧ (load t .boiler).mask.dryfire = true ∧ (load t .boiler).on = false ∧
        t.lif.notices.boilerFault = true ∧ t.sgc.demand = 0 ∧ t.sgc.thermostat = false ∧
        t.sgc.content = s.sgc.content ∧ t.sgc.purpose = s.sgc.purpose ∧ t.sgc.soakedS = s.sgc.soakedS ∧
        t.sgc.request = s.sgc.request ∧ t.sgc.served = s.sgc.served) ∧
    (∀ raw : Int,
      s.sgc.state = .heating ∨ s.sgc.state = .ready ∨ s.sgc.state = .steaming ∨ s.sgc.state = .refilling
        ∨ s.sgc.state = .soaking →
      (s.msu.boiler.fault = false ∧ -200 ≤ raw ∧ raw ≤ 2000 ∧ 1300 < filteredAfter s.msu.boiler raw)
        ∨ (s.msu.boiler.fault = true ∧ 2 ≤ s.msu.boiler.goodRun ∧ raw ≤ 2000 ∧ 1300 < raw)
        ∨ (s.msu.boiler.fault = false ∧ 2 ≤ s.msu.boiler.badRun ∧ (raw < -200 ∨ 2000 < raw)) →
      ∃ t, exec (.analogSample .boiler raw) s = .next t ∧ ChangesOnly [.msu, .sgc, .ldt, .par, .lif, .run] s t ∧
        SameConfig s t ∧ t.sgc.state = .fault ∧ (load t .boiler).mask.dryfire = true ∧ (load t .boiler).on = false ∧
        t.lif.notices.boilerFault = true ∧ t.sgc.demand = 0 ∧ t.sgc.thermostat = false ∧
        t.ldt.aux.feedPump = false ∧ t.ldt.aux.drainPump = false ∧
        t.sgc.content = s.sgc.content ∧ t.sgc.purpose = s.sgc.purpose ∧ t.sgc.soakedS = s.sgc.soakedS ∧
        t.sgc.request = s.sgc.request ∧ t.sgc.served = s.sgc.served ∧
        t.run = { s.run with degraded := t.run.degraded }) ∧
    (∀ raw : Int,
      s.sgc.state = .empty ∨ s.sgc.state = .filling ∨ s.sgc.state = .standing ∨ s.sgc.state = .draining
        ∨ s.sgc.state = .fault →
      s.msu.boiler.fault = false → 2 ≤ s.msu.boiler.badRun → raw < -200 ∨ 2000 < raw →
      ∃ t, exec (.analogSample .boiler raw) s = .next t ∧ ChangesOnly [.msu, .lif] s t) ∧
    ∀ raw : Int,
      s.sgc.state = .standing → s.msu.boiler.fault = true → 2 ≤ s.msu.boiler.goodRun → -200 ≤ raw → raw ≤ 2000 →
      ∃ t, exec (.analogSample .boiler raw) s = .next t ∧ ChangesOnly [.msu, .sgc, .ldt, .par, .lif, .run] s t ∧
        SameConfig s t ∧ t.run = { s.run with degraded := t.run.degraded } ∧ t.sgc.request = s.sgc.request ∧
        t.sgc.content = s.sgc.content ∧ t.msu.boiler.fault = false ∧ t.msu.boiler.filtered = some raw ∧
        (s.sgc.request = .none → cookingWant s = true → steamBlocked s = false → s.sgc.content = .water →
          t.sgc.purpose = .cook ∧
          (raw < 980 → t.sgc.state = .heating ∧ t.sgc.heatCount = 0) ∧
          (980 ≤ raw → raw ≤ 1300 → t.sgc.state = if 0 < steamDemand s then .steaming else .ready) ∧
          (1300 < raw → t.sgc.state = .fault ∧ (load t .boiler).mask.dryfire = true ∧ t.lif.notices.boilerFault = true)) ∧
        (s.sgc.request = .none → cookingWant s = true → steamBlocked s = false →
          s.sgc.content = .descaler ∨ s.sgc.content = .unknown → t.sgc.state = .draining) ∧
        (s.sgc.request = .none → cookingWant s = false ∨ steamBlocked s = true → t.sgc.state = .standing) ∧
        ∀ target, s.sgc.request = .soak target → s.sgc.served = false →
          t.sgc.served = true ∧
          (raw ≤ 1300 → t.sgc.state = .soaking ∧ t.sgc.thermostat = decide (raw < target)) ∧
          (1300 < raw → t.sgc.state = .fault ∧ (load t .boiler).mask.dryfire = true ∧ t.lif.notices.boilerFault = true)

/-- A drain completes (R85, R97, R111, R112, R113, R149, R150, R161): the content is emptied, descaler soaked for 1500 s
clears the account, a rinse soaked for 300 s is marked (whatever follows the drain), and a run in ENDING enters IDLE. The
drain step of DESCALE or RINSE ends and the next step starts, the last one with the rinse end; and EMPTY begins the fill that
is asked for, a retry among them. The row is the tick that reaches 40 (log 4). -/
def Obligations.DrainsComplete : Prop :=
  (∀ (n : Nat) (s : State),
    ScaleLaw s → s.sgc.state = .draining → s.sgc.drainCount = some n → 39 ≤ n →
    (s.run.state = .idle ∧ s.sgc.request = .none ∧ cookingWant s = false) ∨
      (s.run.state = .ending ∧ s.sgc.request = .drain ∧ s.sgc.lookAhead = false ∧ s.sgc.needsSteam = false) →
    ∃ t, exec .drainComplete s = .next t ∧ SameConfig s t ∧
      t.sgc.state = .empty ∧ t.sgc.content = .none ∧ t.sgc.purpose = .idle ∧ t.sgc.soakedS = .none ∧
      t.ldt.aux.drainPump = false ∧ t.sgc.request = .none ∧
      (s.sgc.content = .descaler → 1500 ≤ s.sgc.soakedS.getD 0 → t.sca.scaleMg = 0 ∧ t.sca.stage = .clear
        ∧ t.sca.rinseDue = s.sca.rinseDue ∧ t.sca.rinseSoaked = s.sca.rinseSoaked) ∧
      (s.sgc.content = .water → s.sgc.purpose = .rinse → 300 ≤ s.sgc.soakedS.getD 0 →
        t.sca = { s.sca with rinseSoaked := true }) ∧
      (s.sgc.content = .none ∨ s.sgc.content = .unknown
          ∨ (s.sgc.content = .descaler ∧ s.sgc.soakedS.getD 0 < 1500)
          ∨ (s.sgc.content = .water ∧ (s.sgc.purpose ≠ .rinse ∨ s.sgc.soakedS.getD 0 < 300)) → t.sca = s.sca) ∧
      (s.run.state = .ending → t.run.state = .idle ∧ t.run.outcome = s.run.endingCause ∧ t.run.endingCause = .none
        ∧ t.lif.notices.programEnded = true)) ∧
  (∀ (slot pos n : Nat) (s : State),
    slot ≤ 1 → s.run.slot = some slot → s.run.position = some pos → s.run.state = .active → s.run.pause.isEmpty = true →
    stepAt s slot pos = some .boilerDrain → s.sgc.request = .drain → s.sgc.lookAhead = false →
    s.sgc.needsSteam = false → s.sgc.state = .draining → s.sgc.drainCount = some n → 39 ≤ n →
    (∀ c, stepAt s slot (pos + 1) = some (.boilerFill c) → s.msu.high.reported = .dry) →
    ∃ t, exec .drainComplete s = .next t ∧ SameConfig s t ∧ t.ldt.aux.drainPump = false ∧
      (ScaleLaw s →
        (∀ p, stepAt s slot (pos + 1) = some (.confirm p) → t.sca = drainJudged s) ∧
        (∀ c, stepAt s slot (pos + 1) = some (.boilerFill c) → t.sca = fillNoted c (drainJudged s)) ∧
        (stepAt s slot (pos + 1) = .none → t.sca = rinseEnded (drainJudged s))) ∧
      t.run.lastEnd = some { position := pos, cause := .condition, marks := s.run.marks } ∧
      t.lif.notices.stepEnded = true ∧
      (∀ p, stepAt s slot (pos + 1) = some (.confirm p) →
        t.run.position = some (pos + 1) ∧ t.run.state = .awaitConfirm ∧ t.run.awaiting = some .step ∧
        currentPrompt t = some p ∧ t.sgc.state = .empty ∧ t.sgc.content = .none ∧ t.sgc.purpose = .idle ∧
        t.sgc.soakedS = .none ∧ t.sgc.request = .none) ∧
      (∀ c, stepAt s slot (pos + 1) = some (.boilerFill c) →
        t.run.position = some (pos + 1) ∧ t.run.state = .active ∧ t.sgc.state = .filling ∧
        t.sgc.request = .fill c ∧ t.sgc.served = false ∧ t.ldt.aux.feedPump = true ∧ t.sgc.fillTimer = 0 ∧
        t.sgc.soakedS = some 0) ∧
      (stepAt s slot (pos + 1) = .none →
        t.run.state = .idle ∧ t.run.outcome = some .completed ∧ t.lif.notices.programEnded = true ∧
        t.sgc.state = .empty ∧ t.sgc.content = .none ∧ t.sgc.purpose = .idle ∧ t.sgc.request = .none ∧
        t.sca.rinseSoaked = false ∧
        (s.sca.rinseSoaked = true
            ∨ (s.sgc.content = .water ∧ s.sgc.purpose = .rinse ∧ 300 ≤ s.sgc.soakedS.getD 0) →
          t.sca.rinseDue = false) ∧
        (s.sca.rinseSoaked = false →
          s.sgc.content ≠ .water ∨ s.sgc.purpose ≠ .rinse ∨ s.sgc.soakedS.getD 0 < 300 →
          t.sca.rinseDue = s.sca.rinseDue))) ∧
  ∀ (n : Nat) (s : State),
    s.sgc.state = .draining → s.sgc.drainCount = some n → 39 ≤ n → s.sgc.served = false → s.msu.high.reported = .dry →
    ∃ t, exec .drainComplete s = .next t ∧ SameConfig s t ∧
      (∀ c, s.sgc.request = .fill c →
        t.sgc.request = .fill c ∧ t.sgc.served = false ∧ t.run = { s.run with degraded := t.run.degraded } ∧
        (ScaleLaw s → t.sca = if s.sgc.tankEmpty then drainJudged s else fillNoted c (drainJudged s)) ∧
        (s.sgc.tankEmpty = true → t.sgc.state = .empty ∧ t.sgc.content = .none ∧ t.sgc.purpose = .idle) ∧
        (s.sgc.tankEmpty = false →
          t.sgc.state = .filling ∧ t.ldt.aux.feedPump = true ∧ t.sgc.fillTimer = 0 ∧ t.sgc.soakedS = some 0 ∧
          (c = .descaler → t.sgc.content = .descaler ∧ t.sgc.purpose = .descale) ∧
          (c = .water → t.sgc.content = .water ∧ t.sgc.purpose = .rinse))) ∧
      (s.sgc.request = .none → cookingWant s = true → steamBlocked s = false → s.sgc.tankEmpty = false →
        t.sgc.state = .filling ∧ t.sgc.content = .water ∧ t.sgc.purpose = .cook ∧ t.sgc.soakedS = .none ∧
        t.sgc.fillTimer = 0 ∧ t.ldt.aux.feedPump = true ∧ (ScaleLaw s → t.sca = drainJudged s))

/-- A soak reaches its duration (R95, R96, R149, R150; Tables 6.7 and 6.8): the step ends with CONDITION, and the next
step's drain begins with the soak count kept. The row is the tick that reaches the duration (log 4). -/
def Obligations.SoaksReachTheirDuration : Prop :=
  ∀ (slot pos n secs : Nat) (target want T : Int) (s : State),
    slot ≤ 1 → s.run.slot = some slot → s.run.position = some pos → s.run.state = .active → s.run.pause.isEmpty = true →
    stepAt s slot pos = some (.boilerSoak want secs) → s.run.latched.duration = some secs →
    s.sgc.state = .soaking → s.sgc.request = .soak target → s.sgc.soakedS = some n → s.msu.boiler.filtered = some T →
    target - 20 ≤ T → secs ≤ n + 1 → n < 65535 →
    ∃ t, exec .soakDurationReached s = .next t ∧ SameConfig s t ∧
      t.run.lastEnd = some { position := pos, cause := .condition, marks := s.run.marks } ∧
      t.lif.notices.stepEnded = true ∧ t.run.position = some (pos + 1) ∧ t.run.state = .active ∧
      t.sgc.state = .draining ∧ t.sgc.request = .drain ∧ t.sgc.soakedS = some (n + 1) ∧ t.sgc.content = s.sgc.content

/-- A step reaches its duration (R147, R150): TIME with CONDITION, CORE and REACHED with CAP and the mark TIMED_OUT. The
row STEP_DURATION_EXPIRY is that tick (log 4). -/
def Obligations.StepsReachTheirDuration : Prop :=
  ∀ (c : ClimateStep) (d : Nat) (s : State),
    RunLaw s → NextIsUserStep s → s.run.state = .active → s.run.pause.isEmpty = true →
    currentStep s = some (.climate c) → s.run.latched.duration = some d → c.endCond ≠ .confirm →
    d ≤ min 65535 (s.run.elapsedS + 1) →
    ∃ t, exec .stepDurationExpiry s = .next t ∧ exec .stepTick s = .next t ∧ SameConfig s t ∧
      t.run.totalS = min 65535 (s.run.totalS + 1) ∧
      (c.endCond = .time → StepEnded (.climate c) .condition s.run.marks s t) ∧
      (c.endCond ≠ .time → StepEnded (.climate c) .cap { s.run.marks with timedOut := true } s t)

/-- A rise of the stage raises the notice of every stage that it enters, and nothing else raises one (R106), whatever the
command, but for a release from reset and a frame of CLEAR_NOTICES or INIT, however it arrives. -/
def Obligations.RisesRaiseEachStageEntered : Prop :=
  ∀ (i : Instr) (s t : State),
    ScaleLaw s → exec i s = .next t → completedCode i s ≠ some 0x09 → completedCode i s ≠ some 0x5F →
    (∀ a b, i ≠ .resetRelease a b) →
    ∀ (k : Notice) (n : Nat),
      (k = .scaleAdvise ∧ n = 1) ∨ (k = .scaleDerate ∧ n = 2) ∨ (k = .scaleLock ∧ n = 3) →
      t.lif.notices.has k
        = (s.lif.notices.has k || decide (s.sca.stage.rank < n ∧ n ≤ t.sca.stage.rank))
end

