-- ==== Sys2Proof/Laws/Congr.lean ====
section
/-!
SUPPORT. Which blocks each law of Safety.lean reads: two states with the same blocks meet it together, so a command that
leaves them alone keeps it.
-/

namespace Sys2Proof.Machine

variable {s t : State}

theorem load_congr (h : t.ldt = s.ldt) (l : LoadId) : load t l = load s l := by simp only [load, h]

theorem ovenMode_congr (h1 : t.svc = s.svc) (h2 : t.dlu = s.dlu) (h3 : t.run = s.run) : ovenMode t = ovenMode s := by
  simp only [ovenMode, h1, h2, h3]

theorem firingLaw_congr (h1 : t.ldt = s.ldt) (h2 : t.par = s.par) (h : FiringLaw s) : FiringLaw t := by
  obtain ⟨a, b, c⟩ := h
  constructor
  · simpa only [load, h1, h2] using a
  · simpa only [h2] using b
  · simpa only [h2] using c

theorem soloLaw_congr (h1 : t.ldt = s.ldt) (h2 : t.par = s.par) (h : SoloLaw s) : SoloLaw t := by
  have hm (g : Leg) : legMeasurement t g = legMeasurement s g := by cases g <;> simp only [legMeasurement, h1]
  obtain ⟨a, b, c, d⟩ := h
  constructor <;> simpa only [load, h1, h2, hm]

theorem pauseLaw_congr (h1 : t.ldt = s.ldt) (h2 : t.run = s.run) (h : PauseLaw s) : PauseLaw t := by
  obtain ⟨a, b⟩ := h
  constructor
  · simpa only [load, h1, h2] using a
  · simpa only [h2] using b

theorem boilerLaw_congr (h1 : t.ldt = s.ldt) (h2 : t.sgc = s.sgc) (h3 : t.sca = s.sca) (h : BoilerLaw s) : BoilerLaw t := by
  obtain ⟨a, b, c, d, e, f, g, i, j, k, l⟩ := h
  constructor <;> simpa only [load, h1, h2, h3]

theorem scaleLaw_congr (h1 : t.ldt = s.ldt) (h2 : t.sgc = s.sgc) (h3 : t.sca = s.sca) (h : ScaleLaw s) : ScaleLaw t := by
  obtain ⟨a, b, c, d⟩ := h
  constructor <;> simpa only [load, h1, h2, h3]

theorem listLaw_congr (h1 : t.ldt = s.ldt) (h2 : t.par = s.par) (h : ListLaw s) : ListLaw t := by
  obtain ⟨a, b, c⟩ := h
  constructor <;> simpa only [load, h1, h2]

theorem configLaw_congr (h1 : t.ldt = s.ldt) (h2 : t.par = s.par) (h3 : t.clc = s.clc) (h : ConfigLaw s) : ConfigLaw t := by
  obtain ⟨a, b, c, d, e, f, g⟩ := h
  constructor <;> simpa only [load, h1, h2, h3]

theorem storeLaw_congr (h1 : t.pst = s.pst) (h2 : t.lif = s.lif) (h : StoreLaw s) : StoreLaw t := by
  obtain ⟨a, b, c, d, e, f, g, i, j⟩ := h
  constructor <;> simpa only [allRecords, userProgram, h1, h2]

theorem doorLaw_congr (h1 : t.ldt = s.ldt) (h2 : t.dlu = s.dlu) (h3 : t.svc = s.svc) (h4 : t.run = s.run) (h : DoorLaw s) :
    DoorLaw t := by
  obtain ⟨a, b, c, d, e, f⟩ := h
  constructor <;> simpa only [load, ovenMode, h1, h2, h3, h4]

theorem linkLaw_congr (h1 : t.lif = s.lif) (h2 : t.dlu = s.dlu) (h3 : t.svc = s.svc) (h4 : t.run = s.run) (h : LinkLaw s) :
    LinkLaw t := by
  obtain ⟨a, b, c, d, e, f, g⟩ := h
  constructor <;> simpa only [ovenMode, h1, h2, h3, h4]

theorem maskLaw_congr (h1 : t.ldt = s.ldt) (h2 : t.par = s.par) (h : MaskLaw s) : MaskLaw t := by
  obtain ⟨a, b⟩ := h
  constructor <;> simpa only [load, h1, h2]

theorem rangeLaw_congr (h1 : t.ldt = s.ldt) (h2 : t.clc = s.clc) (h3 : t.sgc = s.sgc) (h4 : t.run = s.run) (h5 : t.msu = s.msu)
    (h : RangeLaw s) : RangeLaw t := by
  obtain ⟨a, b, c, d, e, f, g⟩ := h
  constructor <;> simpa only [load, h1, h2, h3, h4, h5]

theorem runLaw_congr (h1 : t.run = s.run) (h2 : t.clc = s.clc) (h3 : t.svc = s.svc) (h : RunLaw s) : RunLaw t := by
  obtain ⟨a, b, c, d, e, f, g, i, j⟩ := h
  constructor <;> simpa only [hasCurrent, h1, h2, h3]

end Sys2Proof.Machine
end

