-- ==== Sys2Proof/Laws/State.lean ====
section
/-!
SUPPORT. The small lemmas of the state's accessors and primitive updates: what reading a record after an update gives.
-/

namespace Sys2Proof.Machine

/-! ## Per-load values -/

@[simp] theorem PerLoad.get_set_same {α : Type} (p : PerLoad α) (l : LoadId) (a : α) : (p.set l a).get l = a := by
  cases l <;> rfl

theorem PerLoad.get_set_other {α : Type} (p : PerLoad α) {l k : LoadId} (a : α) (h : k ≠ l) :
    (p.set l a).get k = p.get k := by
  cases l <;> cases k <;> first | rfl | exact absurd rfl h

theorem PerLoad.get_set {α : Type} (p : PerLoad α) (l k : LoadId) (a : α) :
    (p.set l a).get k = if k = l then a else p.get k := by
  split
  · subst k; simp
  · exact PerLoad.get_set_other p a ‹_›

@[simp] theorem PerLoad.get_of {α : Type} (f : LoadId → α) (l : LoadId) : (PerLoad.of f).get l = f l := by
  cases l <;> rfl

theorem PerLoad.ext_get {α : Type} {p q : PerLoad α} (h : ∀ l, p.get l = q.get l) : p = q := by
  have a := h .top; have b := h .bottom; have c := h .ring; have d := h .grill; have e := h .boiler
  cases p; cases q; simp_all [PerLoad.get]

theorem mem_allLoads (l : LoadId) : l ∈ allLoads := by cases l <;> decide

theorem mem_elements {l : LoadId} : l ∈ elements ↔ l ≠ .boiler := by cases l <;> decide

/-! ## Mask-reason sets and pause sets -/

@[simp] theorem Mask.has_put_same (m : Mask) (r : Reason) (b : Bool) : (m.put r b).has r = b := by cases r <;> rfl

theorem Mask.has_put (m : Mask) (r q : Reason) (b : Bool) :
    (m.put r b).has q = if q = r then b else m.has q := by
  cases r <;> cases q <;> rfl

theorem Mask.isEmpty_iff (m : Mask) : m.isEmpty = true ↔ ∀ r, m.has r = false := by
  constructor
  · intro h r
    have : m = {} := by simpa [Mask.isEmpty] using h
    subst this; cases r <;> rfl
  · intro h
    have := h .door; have := h .pause; have := h .health; have := h .level; have := h .dryfire
    have := h .scale; have := h .overload; have := h .supply; have := h .faultMode; have := h .forceOff
    cases m; simp_all [Mask.has, Mask.isEmpty]

theorem Mask.not_isEmpty_of_has {m : Mask} {r : Reason} (h : m.has r = true) : m.isEmpty = false := by
  cases e : m.isEmpty
  · rfl
  · have := (Mask.isEmpty_iff m).1 e r; simp_all

@[simp] theorem PauseSet.has_put_same (p : PauseSet) (r : PauseReason) (b : Bool) : (p.put r b).has r = b := by
  cases r <;> rfl

theorem PauseSet.has_put (p : PauseSet) (r q : PauseReason) (b : Bool) :
    (p.put r b).has q = if q = r then b else p.has q := by
  cases r <;> cases q <;> rfl

theorem PauseSet.isEmpty_iff (p : PauseSet) : p.isEmpty = true ↔ ∀ r, p.has r = false := by
  constructor
  · intro h r
    have : p = {} := by simpa [PauseSet.isEmpty] using h
    subst this; cases r <;> rfl
  · intro h
    have := h .host; have := h .door; have := h .tank; have := h .probe; have := h .link
    cases p; simp_all [PauseSet.has, PauseSet.isEmpty]

theorem Notices.has_add (n : Notices) (k j : Notice) : (n.add k).has j = (decide (j = k) || n.has j) := by
  cases k <;> cases j <;> rfl

/-! ## Load records -/

theorem load_setLoad (s : State) (l k : LoadId) (d : Load) : load (setLoad s l d) k = if k = l then d else load s k :=
  PerLoad.get_set ..

theorem load_updLoad (f : Load → Load) (l k : LoadId) (s : State) :
    load (updLoad f l s) k = if k = l then f (load s l) else load s k := load_setLoad ..

@[simp] theorem load_updLoad_same (f : Load → Load) (l : LoadId) (s : State) :
    load (updLoad f l s) l = f (load s l) := by simp [load_updLoad]

theorem load_updLoad_other {l k : LoadId} (f : Load → Load) (s : State) (h : k ≠ l) :
    load (updLoad f l s) k = load s k := by simp [load_updLoad, h]

@[simp] theorem updLoad_msu (f : Load → Load) (l : LoadId) (s : State) : (updLoad f l s).msu = s.msu := rfl
@[simp] theorem updLoad_par (f : Load → Load) (l : LoadId) (s : State) : (updLoad f l s).par = s.par := rfl
@[simp] theorem updLoad_clc (f : Load → Load) (l : LoadId) (s : State) : (updLoad f l s).clc = s.clc := rfl
@[simp] theorem updLoad_sgc (f : Load → Load) (l : LoadId) (s : State) : (updLoad f l s).sgc = s.sgc := rfl
@[simp] theorem updLoad_sca (f : Load → Load) (l : LoadId) (s : State) : (updLoad f l s).sca = s.sca := rfl
@[simp] theorem updLoad_pst (f : Load → Load) (l : LoadId) (s : State) : (updLoad f l s).pst = s.pst := rfl
@[simp] theorem updLoad_run (f : Load → Load) (l : LoadId) (s : State) : (updLoad f l s).run = s.run := rfl
@[simp] theorem updLoad_dlu (f : Load → Load) (l : LoadId) (s : State) : (updLoad f l s).dlu = s.dlu := rfl
@[simp] theorem updLoad_lif (f : Load → Load) (l : LoadId) (s : State) : (updLoad f l s).lif = s.lif := rfl
@[simp] theorem updLoad_svc (f : Load → Load) (l : LoadId) (s : State) : (updLoad f l s).svc = s.svc := rfl
@[simp] theorem updLoad_pending (f : Load → Load) (l : LoadId) (s : State) : (updLoad f l s).pending = s.pending := rfl
@[simp] theorem updLoad_aux (f : Load → Load) (l : LoadId) (s : State) : (updLoad f l s).ldt.aux = s.ldt.aux := rfl

/-! ## Notices -/

@[simp] theorem raise_msu (k : Notice) (s : State) : (raise k s).msu = s.msu := rfl
@[simp] theorem raise_ldt (k : Notice) (s : State) : (raise k s).ldt = s.ldt := rfl
@[simp] theorem raise_par (k : Notice) (s : State) : (raise k s).par = s.par := rfl
@[simp] theorem raise_clc (k : Notice) (s : State) : (raise k s).clc = s.clc := rfl
@[simp] theorem raise_sgc (k : Notice) (s : State) : (raise k s).sgc = s.sgc := rfl
@[simp] theorem raise_sca (k : Notice) (s : State) : (raise k s).sca = s.sca := rfl
@[simp] theorem raise_pst (k : Notice) (s : State) : (raise k s).pst = s.pst := rfl
@[simp] theorem raise_run (k : Notice) (s : State) : (raise k s).run = s.run := rfl
@[simp] theorem raise_dlu (k : Notice) (s : State) : (raise k s).dlu = s.dlu := rfl
@[simp] theorem raise_svc (k : Notice) (s : State) : (raise k s).svc = s.svc := rfl
@[simp] theorem raise_pending (k : Notice) (s : State) : (raise k s).pending = s.pending := rfl
@[simp] theorem raise_load (k : Notice) (s : State) (l : LoadId) : load (raise k s) l = load s l := rfl

theorem raise_has (k j : Notice) (s : State) :
    (raise k s).lif.notices.has j = (decide (j = k) || s.lif.notices.has j) := Notices.has_add ..

/-! ## Adding and removing a mask reason -/

@[simp] theorem withdraw_msu (l : LoadId) (s : State) : (withdraw l s).msu = s.msu := by
  unfold withdraw; split <;> rfl
@[simp] theorem withdraw_ldt (l : LoadId) (s : State) : (withdraw l s).ldt = s.ldt := by
  unfold withdraw; split <;> rfl
@[simp] theorem withdraw_clc (l : LoadId) (s : State) : (withdraw l s).clc = s.clc := by
  unfold withdraw; split <;> rfl
@[simp] theorem withdraw_sgc (l : LoadId) (s : State) : (withdraw l s).sgc = s.sgc := by
  unfold withdraw; split <;> rfl
@[simp] theorem withdraw_sca (l : LoadId) (s : State) : (withdraw l s).sca = s.sca := by
  unfold withdraw; split <;> rfl
@[simp] theorem withdraw_pst (l : LoadId) (s : State) : (withdraw l s).pst = s.pst := by
  unfold withdraw; split <;> rfl
@[simp] theorem withdraw_run (l : LoadId) (s : State) : (withdraw l s).run = s.run := by
  unfold withdraw; split <;> rfl
@[simp] theorem withdraw_dlu (l : LoadId) (s : State) : (withdraw l s).dlu = s.dlu := by
  unfold withdraw; split <;> rfl
@[simp] theorem withdraw_lif (l : LoadId) (s : State) : (withdraw l s).lif = s.lif := by
  unfold withdraw; split <;> rfl
@[simp] theorem withdraw_svc (l : LoadId) (s : State) : (withdraw l s).svc = s.svc := by
  unfold withdraw; split <;> rfl
@[simp] theorem withdraw_pending (l : LoadId) (s : State) : (withdraw l s).pending = s.pending := by
  unfold withdraw; split <;> rfl
@[simp] theorem withdraw_load (l k : LoadId) (s : State) : load (withdraw l s) k = load s k := by
  simp [load]

/-- All that adding a mask reason can do to the load records (R19, R20). -/
theorem load_addReason (r : Reason) (l k : LoadId) (s : State) :
    load (addReason r l s) k
      = if k = l ∧ (load s l).mask.has r = false then { load s l with mask := (load s l).mask.put r true, on := false }
        else load s k := by
  unfold addReason
  by_cases h : (load s l).mask.has r = true
  · simp [h]
  · rw [if_neg h, withdraw_load]
    refine (load_updLoad (fun d => { d with mask := d.mask.put r true, on := false }) l k s).trans ?_
    simp [h]

/-- All that removing a mask reason does to the load records (R19). -/
theorem load_removeReason (r : Reason) (l k : LoadId) (s : State) :
    load (removeReason r l s) k
      = if k = l then { load s l with mask := (load s l).mask.put r false } else load s k := load_updLoad ..

/-- The reason is present afterwards (R19). -/
theorem addReason_has (r : Reason) (l : LoadId) (s : State) : (load (addReason r l s) l).mask.has r = true := by
  rw [load_addReason]
  by_cases h : (load s l).mask.has r = true <;> simp_all

/-- One owner's addition does not touch another owner's reason (R19). -/
theorem addReason_other {r q : Reason} (h : q ≠ r) (l k : LoadId) (s : State) :
    (load (addReason r l s) k).mask.has q = (load s k).mask.has q := by
  rw [load_addReason]
  split
  · rename_i e; rw [e.1]; simp [Mask.has_put, h]
  · rfl

/-- One owner's removal does not touch another owner's reason (R19). -/
theorem removeReason_other {r q : Reason} (h : q ≠ r) (l k : LoadId) (s : State) :
    (load (removeReason r l s) k).mask.has q = (load s k).mask.has q := by
  rw [load_removeReason]
  split
  · rename_i e; rw [e]; simp [Mask.has_put, h]
  · rfl

end Sys2Proof.Machine
end

