-- ==== Sys2Proof/Laws/Inner.lean ====
section
/-!
SUPPORT. What the scale account, the steam generator and the climate controller leave alone. `innerView` collects the
records that they never write; one lemma for each of their operations says that it keeps them. A later proof cites the
lemma and projects the field it needs.
-/

namespace Sys2Proof.Machine

/-- The fields of a load record that only the arbiter, SET_LOAD and the judgement of a measurement write. -/
def fixedLoad (d : Load) : Nat × Nat × Leg × Health × Option Nat × Bool × Nat × Nat :=
  (d.ratedW, d.cls, d.leg, d.health, d.measuredW, d.verifyDue, d.served, d.shortfall)

/-- A mask-reason set without the boiler's own reasons (Table 2.3). -/
def outerMask (m : Mask) : Mask := { m with level := false, dryfire := false, scale := false }

/-- The part of a frame record that masking does not write. -/
def fixedFrame (f : Frame) : FrameState × Nat × Nat × List Slot × InForce :=
  (f.state, f.slot, f.half, f.grid, f.inForce)

/-- The water configuration and the restored flag. -/
def fixedSca (a : Sca) : Nat × Nat × Nat × Nat × Nat × Bool :=
  (a.hardness, a.fillMl, a.advise, a.derate, a.lock, a.restored)

/-- The records that the scale account, the steam generator and the climate controller never write. -/
structure InnerView where
  msu : Msu
  loads : PerLoad ((Nat × Nat × Leg × Health × Option Nat × Bool × Nat × Nat) × Mask)
  outputs : Bool × Bool
  par : Supply × List Nat × PerClass (List LoadId) × PerClass Policy
  frame : FrameState × Nat × Nat × List Slot × InForce
  clc : Vector ModeEntry 8 × LoopParams
  water : Nat × Nat × Nat × Nat × Nat × Bool
  pst : Pst
  run : Run
  dlu : Dlu
  lif : Lif
  svc : Svc
  pending : List Instr

/-- The view of a load record. -/
def innerLoad (d : Load) : (Nat × Nat × Leg × Health × Option Nat × Bool × Nat × Nat) × Mask :=
  (fixedLoad d, outerMask d.mask)

/-- The view of a state: DEGRADED and the notices apart. -/
def innerView (s : State) : InnerView where
  msu := s.msu
  loads := .of fun l => innerLoad (load s l)
  outputs := (s.ldt.aux.lamp, s.ldt.aux.coolFan)
  par := (s.par.supply, s.par.placement, s.par.lists, s.par.policies)
  frame := fixedFrame s.par.frame
  clc := (s.clc.table, s.clc.loop)
  water := fixedSca s.sca
  pst := s.pst
  run := { s.run with degraded := false }
  dlu := s.dlu
  lif := { s.lif with notices := {} }
  svc := s.svc
  pending := s.pending

/-! ## Primitive updates -/

theorem inner_updLoad {f : Load → Load} (h : ∀ d, innerLoad (f d) = innerLoad d) (l : LoadId) (s : State) :
    innerView (updLoad f l s) = innerView s := by
  have e : (PerLoad.of fun k => innerLoad (load (updLoad f l s) k)) = PerLoad.of fun k => innerLoad (load s k) := by
    apply PerLoad.ext_get
    intro k
    rw [PerLoad.get_of, PerLoad.get_of, load_updLoad]
    split
    · subst k; exact h _
    · rfl
  simp only [innerView, e]
  rfl

theorem inner_sgc (s : State) (g : Sgc) : innerView { s with sgc := g } = innerView s := rfl

theorem inner_sca {s : State} {a : Sca} (h : fixedSca a = fixedSca s.sca) :
    innerView { s with sca := a } = innerView s := by simp only [innerView, h]; rfl

theorem inner_clc {s : State} {c : Clc} (h : (c.table, c.loop) = (s.clc.table, s.clc.loop)) :
    innerView { s with clc := c } = innerView s := by simp only [innerView, h]; rfl

theorem inner_raise (k : Notice) (s : State) : innerView (raise k s) = innerView s := rfl

theorem inner_degraded (s : State) (b : Bool) :
    innerView { s with run := { s.run with degraded := b } } = innerView s := rfl

theorem inner_withdraw (l : LoadId) (s : State) : innerView (withdraw l s) = innerView s := by
  unfold withdraw; split <;> rfl

/-- A mask reason that the scale account or the steam generator owns (Table 2.3). -/
def boilerReason : Reason → Bool
  | .level | .dryfire | .scale => true
  | .door | .pause | .health | .overload | .supply | .faultMode | .forceOff => false

theorem outerMask_put {r : Reason} (h : boilerReason r = true) (m : Mask) (b : Bool) :
    outerMask (m.put r b) = outerMask m := by
  cases r <;> first | rfl | exact absurd h (by decide)

theorem inner_addReason {r : Reason} (h : boilerReason r = true) (l : LoadId) (s : State) :
    innerView (addReason r l s) = innerView s := by
  unfold addReason
  split
  · rfl
  · exact (inner_withdraw l _).trans
      (inner_updLoad (f := fun d => { d with mask := d.mask.put r true, on := false })
        (fun d => by simp only [innerLoad, outerMask_put h]; rfl) l s)

theorem inner_removeReason {r : Reason} (h : boilerReason r = true) (l : LoadId) (s : State) :
    innerView (removeReason r l s) = innerView s :=
  inner_updLoad (f := fun d => { d with mask := d.mask.put r false })
    (fun d => by simp only [innerLoad, outerMask_put h]; rfl) l s

theorem inner_putReason {r : Reason} (h : boilerReason r = true) (b : Bool) (l : LoadId) (s : State) :
    innerView (putReason b r l s) = innerView s := by
  unfold putReason; split
  · exact inner_addReason h l s
  · exact inner_removeReason h l s

theorem inner_setDemand (n : Nat) (l : LoadId) (s : State) : innerView (setDemand n l s) = innerView s :=
  inner_updLoad (f := fun d => { d with demand := n }) (fun _ => rfl) l s

theorem inner_setAux {a : Aux} {s : State} (h : (a.lamp, a.coolFan) = (s.ldt.aux.lamp, s.ldt.aux.coolFan)) :
    innerView (setAux a s) = innerView s := by
  unfold setAux; split
  · rfl
  · simp only [innerView, h]; rfl

theorem inner_evalFan (s : State) : innerView (evalFan s) = innerView s := inner_setAux rfl

/-! ## The scale account -/

theorem inner_judgeDegraded (s : State) : innerView (judgeDegraded s) = innerView s := by
  unfold judgeDegraded; split <;> rfl

theorem inner_evalScaleMask (s : State) : innerView (evalScaleMask s) = innerView s := inner_putReason rfl _ _ s

theorem inner_raiseStages (old new : Stage) (s : State) : innerView (raiseStages old new s) = innerView s := by
  unfold raiseStages
  dsimp only
  split <;> split <;> split <;> rfl

theorem inner_deriveStage (s : State) : innerView (deriveStage s) = innerView s := by
  unfold deriveStage
  dsimp only
  split
  · rfl
  · rw [inner_judgeDegraded, inner_evalScaleMask, inner_raiseStages]; rfl

theorem inner_takeDeposit (s : State) : innerView (takeDeposit s) = innerView s := by
  unfold takeDeposit; rw [inner_deriveStage]; rfl

theorem inner_takeFillStart (c : FillContent) (s : State) : innerView (takeFillStart c s) = innerView s := by
  cases c
  · rfl
  · exact inner_judgeDegraded _

theorem inner_takeDrain (s : State) : innerView (takeDrain s) = innerView s := by
  unfold takeDrain
  dsimp only
  split
  · rw [inner_deriveStage]; rfl
  · split <;> rfl

/-! ## The steam generator -/

theorem inner_formDemand (s : State) : innerView (formDemand s) = innerView s := by
  unfold formDemand
  dsimp only
  split
  · rfl
  · rw [inner_setDemand]; rfl

theorem inner_setPumps (b : BoilerState) (s : State) : innerView (setPumps b s) = innerView s := inner_setAux rfl

theorem inner_setBoilerReasons (b : BoilerState) (s : State) : innerView (setBoilerReasons b s) = innerView s := (inner_putReason rfl _ _ _).trans (inner_putReason rfl _ _ _)

theorem inner_enterBoiler (b : BoilerState) (s : State) : innerView (enterBoiler b s) = innerView s := by
  unfold enterBoiler
  simp only [inner_formDemand, inner_judgeDegraded, inner_setBoilerReasons, inner_setPumps, inner_sgc]

theorem inner_setPurpose (p : Purpose) (s : State) : innerView (setPurpose p s) = innerView s := by
  unfold setPurpose; simp only [inner_evalScaleMask, inner_sgc]

theorem inner_enterSoaking (t : Int) (s : State) : innerView (enterSoaking t s) = innerView s := by
  unfold enterSoaking; simp only [inner_formDemand, inner_enterBoiler, inner_sgc]

theorem inner_judgeStanding (s : State) : innerView (judgeStanding s) = innerView s := by
  unfold judgeStanding
  repeat' split
  all_goals simp only [inner_enterBoiler, inner_setPurpose, inner_enterSoaking]

theorem inner_endFill (s : State) : innerView (endFill s) = innerView s := by
  unfold endFill
  dsimp only
  repeat' split
  all_goals simp only [inner_judgeStanding, inner_enterBoiler, inner_sgc]

theorem inner_beginFill (c : FillContent) (p : Purpose) (s : State) : innerView (beginFill c p s) = innerView s := by
  unfold beginFill
  dsimp only
  repeat' split
  all_goals simp only [inner_endFill, inner_takeFillStart, inner_enterBoiler, inner_setPurpose, inner_sgc]

theorem inner_judgeEmpty (s : State) : innerView (judgeEmpty s) = innerView s := by
  unfold judgeEmpty
  repeat' split
  all_goals simp only [inner_beginFill]

theorem inner_judgeHot (s : State) : innerView (judgeHot s) = innerView s := by
  unfold judgeHot
  repeat' split
  all_goals simp only [inner_enterBoiler, inner_enterSoaking]

theorem inner_judgeHeating (s : State) : innerView (judgeHeating s) = innerView s := by
  unfold judgeHeating
  repeat' split
  all_goals simp only [inner_enterBoiler, inner_enterSoaking]

theorem inner_judgeBoiler (s : State) : innerView (judgeBoiler s) = innerView s := by
  unfold judgeBoiler
  dsimp only
  rw [inner_formDemand]
  split
  all_goals first
    | simp only [inner_judgeEmpty, inner_judgeStanding, inner_judgeHeating, inner_judgeHot]
    | rfl

theorem inner_serveDrain (s : State) : innerView (serveDrain s) = innerView s := by
  unfold serveDrain
  repeat' split
  all_goals simp only [inner_sgc]

theorem inner_takeRequest (r : StepRequest) (s : State) : innerView (takeRequest r s) = innerView s := by
  unfold takeRequest
  dsimp only
  repeat' split
  all_goals simp only [inner_judgeBoiler, inner_serveDrain, inner_enterBoiler, inner_enterSoaking, inner_sgc]

theorem inner_clearTank (s : State) : innerView (clearTank s) = innerView s := by
  unfold clearTank
  simp only [inner_judgeBoiler, inner_sgc]

theorem inner_evalLookAhead (s : State) : innerView (evalLookAhead s) = innerView s := by
  unfold evalLookAhead
  simp only [inner_judgeBoiler, inner_sgc]

theorem inner_endRefill (s : State) : innerView (endRefill s) = innerView s := by
  unfold endRefill
  dsimp only
  repeat' split
  all_goals simp only [inner_judgeBoiler, inner_enterBoiler]

theorem inner_markTankEmpty (s : State) : innerView (markTankEmpty s) = innerView s := rfl

theorem inner_clearContent (s : State) : innerView (clearContent s) = innerView s := by
  unfold clearContent
  simp only [inner_setPurpose, inner_sgc]

theorem inner_fillTimesOut (s : State) : innerView (fillTimesOut s) = innerView s := by
  unfold fillTimesOut
  dsimp only
  repeat' split
  all_goals simp only [inner_enterBoiler, inner_clearContent, inner_markTankEmpty, inner_sgc]

theorem inner_refillTimesOut (s : State) : innerView (refillTimesOut s) = innerView s := by
  unfold refillTimesOut
  simp only [inner_enterBoiler, inner_markTankEmpty]

theorem inner_drainCompletes (s : State) : innerView (drainCompletes s) = innerView s := by
  unfold drainCompletes
  simp only [inner_judgeBoiler, inner_serveDrain, inner_enterBoiler, inner_clearContent, inner_takeDrain]
  exact inner_setAux rfl

theorem inner_boilerFaults (s : State) : innerView (boilerFaults s) = innerView s := by
  unfold boilerFaults
  simp only [inner_raise, inner_enterBoiler]

theorem inner_lowFallsDry (s : State) : innerView (lowFallsDry s) = innerView s := by
  unfold lowFallsDry
  dsimp only
  repeat' split
  all_goals simp only [inner_judgeBoiler, inner_takeDeposit, inner_enterBoiler, inner_sgc]

theorem inner_drainUnknown (s : State) : innerView (drainUnknown s) = innerView s := by
  unfold drainUnknown
  simp only [inner_enterBoiler, inner_setPurpose, inner_sgc]

theorem inner_lowRisesWet (s : State) : innerView (lowRisesWet s) = innerView s := by
  unfold lowRisesWet
  repeat' split
  all_goals simp only [inner_drainUnknown]

theorem inner_highRisesWet (s : State) : innerView (highRisesWet s) = innerView s := by
  unfold highRisesWet
  repeat' split
  all_goals simp only [inner_endFill, inner_endRefill]

theorem inner_boilerSample (t : Int) (s : State) : innerView (boilerSample t s) = innerView s := by
  unfold boilerSample
  repeat' split
  all_goals simp only [inner_boilerFaults, inner_judgeBoiler, inner_enterBoiler, inner_formDemand, inner_sgc]

theorem inner_boilerChannelFaults (s : State) : innerView (boilerChannelFaults s) = innerView s := by
  unfold boilerChannelFaults
  repeat' split
  all_goals simp only [inner_boilerFaults]

theorem inner_clearBoilerFault (s : State) : innerView (clearBoilerFault s) = innerView s := inner_enterBoiler _ s

theorem inner_initBoiler (s : State) : innerView (initBoiler s) = innerView s := by
  unfold initBoiler
  dsimp only
  repeat' split
  all_goals simp only [inner_enterBoiler, inner_evalScaleMask, inner_sgc]

/-! ## The climate controller -/

theorem inner_handToBoiler (a b : Nat) (s : State) : innerView (handToBoiler a b s) = innerView s := by
  unfold handToBoiler
  simp only [inner_judgeBoiler, inner_sgc]

theorem inner_writeDemands (d : PerElement) (s : State) : innerView (writeDemands d s) = innerView s := by
  unfold writeDemands
  repeat' split
  all_goals simp only [inner_setDemand]

theorem inner_applyHeat (h i16 : Nat) (s : State) : innerView (applyHeat h i16 s).1 = innerView s := by
  unfold applyHeat; simp only [inner_writeDemands]; rfl

theorem inner_heatUpdate (s : State) : innerView (heatUpdate s).1 = innerView s := by
  unfold heatUpdate
  dsimp only
  repeat' split
  all_goals simp only [inner_applyHeat]

theorem inner_evalVent (s : State) : innerView (evalVent s) = innerView s := inner_setAux rfl

theorem inner_loopUpdate (s : State) : innerView (loopUpdate s) = innerView s := by
  unfold loopUpdate
  simp only [inner_handToBoiler, inner_evalVent]
  exact (inner_clc rfl).trans (inner_heatUpdate s)

theorem inner_restartLoopTimer (s : State) : innerView (restartLoopTimer s) = innerView s := rfl

theorem inner_ventAtHandOver (c : Climate) (s : State) : innerView (ventAtHandOver c s) = innerView s := by
  unfold ventAtHandOver; split
  · exact inner_setAux rfl
  · rfl

theorem inner_handOver (c : Climate) (s : State) : innerView (handOver c s) = innerView s := by
  unfold handOver
  simp only [inner_evalFan, inner_restartLoopTimer, inner_loopUpdate, inner_ventAtHandOver]
  rfl

theorem inner_changeSetpoint (t : Int) (s : State) : innerView (changeSetpoint t s) = innerView s := by
  unfold changeSetpoint; split <;> rfl

theorem inner_changeHumSet (t : Int) (s : State) : innerView (changeHumSet t s) = innerView s := by
  unfold changeHumSet; split <;> rfl

theorem inner_moistureFaults (s : State) : innerView (moistureFaults s) = innerView s := by
  unfold moistureFaults; split
  · rw [inner_handToBoiler]; rfl
  · rfl

theorem inner_deriveAndHand (s : State) : innerView (deriveAndHand s) = innerView s := by
  unfold deriveAndHand
  dsimp only
  repeat' split
  all_goals simp only [inner_judgeBoiler, inner_deriveStage]

end Sys2Proof.Machine
end

