-- ==== Sys2Proof/Laws/Fixed.lean ====
section
/-!
SUPPORT. What the run engine and the door and limit unit leave alone, with all that they call: `fixedView` collects the
records that only the measurement unit, the arbiter, the link's receive side, SET_* requests, edits and the service
functions write; one lemma for each operation says that it keeps them.
-/

namespace Sys2Proof.Machine

/-- The records that no run and no door event writes. -/
structure FixedView where
  msu : Msu
  loads : PerLoad (Nat × Nat × Leg × Health × Option Nat × Bool × Nat × Nat)
  par : Supply × List Nat × PerClass (List LoadId) × PerClass Policy
  frame : FrameState × Nat × Nat × List Slot × InForce
  clc : Vector ModeEntry 8 × LoopParams
  water : Nat × Nat × Nat × Nat × Nat × Bool
  pst : Pst
  dlu : DoorLevel × Bool
  lif : Rx × Nat × List Byte × Bool × Option PendingDef × Option Response
  svc : Svc
  pending : List Instr

/-- The receive side and the response. -/
def fixedLif (f : Lif) : Rx × Nat × List Byte × Bool × Option PendingDef × Option Response :=
  (f.rx, f.length, f.buffer, f.gap, f.pendingDef, f.response)

/-- The part of an inner view that no run and no door event writes. -/
def InnerView.fixed (v : InnerView) : FixedView where
  msu := v.msu
  loads := .of fun l => (v.loads.get l).1
  par := v.par
  frame := v.frame
  clc := v.clc
  water := v.water
  pst := v.pst
  dlu := (v.dlu.input, v.dlu.debounce)
  lif := fixedLif v.lif
  svc := v.svc
  pending := v.pending

/-- The view of a state. -/
def fixedView (s : State) : FixedView := (innerView s).fixed

/-- What the inner operations keep is kept. -/
theorem fixed_of_inner {s t : State} (h : innerView t = innerView s) : fixedView t = fixedView s :=
  congrArg InnerView.fixed h

/-! ## Primitive updates -/

theorem fixed_updLoad {f : Load → Load} (h : ∀ d, fixedLoad (f d) = fixedLoad d) (l : LoadId) (s : State) :
    fixedView (updLoad f l s) = fixedView s := by
  have e : (PerLoad.of fun k => ((innerView (updLoad f l s)).loads.get k).1)
      = PerLoad.of fun k => ((innerView s).loads.get k).1 := by
    apply PerLoad.ext_get
    intro k
    simp only [PerLoad.get_of, innerView, innerLoad, load_updLoad]
    split
    · subst k; exact h _
    · rfl
  simp only [fixedView, InnerView.fixed, e]
  rfl

theorem fixed_run (s : State) (r : Run) : fixedView { s with run := r } = fixedView s := rfl

theorem fixed_sgc (s : State) (g : Sgc) : fixedView { s with sgc := g } = fixedView s := rfl

theorem fixed_dlu {s : State} {d : Dlu} (h : (d.input, d.debounce) = (s.dlu.input, s.dlu.debounce)) :
    fixedView { s with dlu := d } = fixedView s := by
  simp only [fixedView, InnerView.fixed, innerView, h]; rfl

theorem fixed_withdraw (l : LoadId) (s : State) : fixedView (withdraw l s) = fixedView s :=
  fixed_of_inner (inner_withdraw l s)

theorem fixed_addReason (r : Reason) (l : LoadId) (s : State) : fixedView (addReason r l s) = fixedView s := by
  unfold addReason
  split
  · rfl
  · exact (fixed_withdraw l _).trans
      (fixed_updLoad (f := fun d => { d with mask := d.mask.put r true, on := false }) (fun _ => rfl) l s)

theorem fixed_removeReason (r : Reason) (l : LoadId) (s : State) : fixedView (removeReason r l s) = fixedView s :=
  fixed_updLoad (f := fun d => { d with mask := d.mask.put r false }) (fun _ => rfl) l s

/-- A fold of operations that each keep the view keeps it. -/
theorem fixed_foldl {α : Type} {f : State → α → State} (h : ∀ s a, fixedView (f s a) = fixedView s) (as : List α)
    (s : State) : fixedView (as.foldl f s) = fixedView s := by
  induction as generalizing s with
  | nil => rfl
  | cons a as ih => exact (ih _).trans (h s a)

theorem fixed_addReasonTo (r : Reason) (ls : List LoadId) (s : State) :
    fixedView (addReasonTo r ls s) = fixedView s := fixed_foldl (fun s l => fixed_addReason r l s) ls s

theorem fixed_removeReasonFrom (r : Reason) (ls : List LoadId) (s : State) :
    fixedView (removeReasonFrom r ls s) = fixedView s := fixed_foldl (fun s l => fixed_removeReason r l s) ls s

theorem fixed_raise (k : Notice) (s : State) : fixedView (raise k s) = fixedView s := rfl

theorem fixed_setAux (a : Aux) (s : State) : fixedView (setAux a s) = fixedView s := by
  unfold setAux; split <;> rfl

theorem fixed_evalLamp (s : State) : fixedView (evalLamp s) = fixedView s := fixed_setAux _ s

theorem fixed_evalFan (s : State) : fixedView (evalFan s) = fixedView s := fixed_setAux _ s

theorem fixed_evalSilence (s : State) : fixedView (evalSilence s) = fixedView s := rfl

theorem fixed_noteMode (m : OvenMode) (s : State) : fixedView (noteMode m s) = fixedView s := by
  unfold noteMode; split
  · rfl
  · rw [fixed_evalSilence, fixed_evalLamp]

/-! ## The run engine -/

theorem fixed_setPause (p : PauseSet) (s : State) : fixedView (setPause p s) = fixedView s := by
  unfold setPause
  dsimp only
  repeat' split
  all_goals simp only [fixed_addReasonTo, fixed_removeReasonFrom, fixed_run]

theorem fixed_addPause (r : PauseReason) (s : State) : fixedView (addPause r s) = fixedView s := by
  unfold addPause
  repeat' split
  all_goals simp only [fixed_setPause]

theorem fixed_leavePause (r : PauseReason) (s : State) : fixedView (leavePause r s) = fixedView s := by
  unfold leavePause
  repeat' split
  all_goals simp only [fixed_setPause]

theorem fixed_dropPause (r : PauseReason) (s : State) : fixedView (dropPause r s) = fixedView s := by
  unfold dropPause
  repeat' split
  all_goals simp only [fixed_leavePause, fixed_of_inner (inner_clearTank _)]

theorem fixed_pauseForDoor (s : State) : fixedView (pauseForDoor s) = fixedView s := by
  unfold pauseForDoor
  repeat' split
  all_goals simp only [fixed_raise, fixed_addPause]

theorem fixed_tankEmptyReport (s : State) : fixedView (tankEmptyReport s) = fixedView s := by
  unfold tankEmptyReport
  repeat' split
  all_goals simp only [fixed_addPause]

theorem fixed_enterIdle (s : State) : fixedView (enterIdle s) = fixedView s := by
  unfold enterIdle
  simp only [fixed_noteMode, fixed_raise, fixed_run, fixed_of_inner (inner_takeRequest _ _)]

theorem fixed_settleEnding (s : State) : fixedView (settleEnding s) = fixedView s := by
  unfold settleEnding
  repeat' split
  all_goals simp only [fixed_enterIdle]

theorem fixed_enterEnding (c : RunOutcome) (s : State) : fixedView (enterEnding c s) = fixedView s := by
  unfold enterEnding
  dsimp only
  repeat' split
  all_goals simp only [fixed_settleEnding, fixed_setPause, fixed_run, fixed_sgc, fixed_of_inner (inner_clearTank _), fixed_of_inner (inner_takeRequest _ _), fixed_of_inner (inner_handOver _ _)]

theorem fixed_enterHolding (k : Nat) (s : State) : fixedView (enterHolding k s) = fixedView s := by
  unfold enterHolding
  simp only [fixed_dropPause, fixed_run, fixed_sgc, fixed_of_inner (inner_judgeBoiler _), fixed_of_inner (inner_handOver _ _)]

theorem fixed_rinseEnd (s : State) : fixedView (rinseEnd s) = fixedView s := by
  unfold rinseEnd; split
  · exact (fixed_of_inner (inner_judgeBoiler _)).trans rfl
  · rfl

theorem fixed_lastStepEnded (s : State) : fixedView (lastStepEnded s) = fixedView s := by
  unfold lastStepEnded
  dsimp only
  repeat' split
  all_goals simp only [fixed_enterHolding, fixed_enterEnding, fixed_rinseEnd]

theorem fixed_latchStep (st : Option Step) (s : State) : fixedView (latchStep st s) = fixedView s := by
  unfold latchStep; split <;> rfl

theorem fixed_handRequest (st : Option Step) (s : State) : fixedView (handRequest st s) = fixedView s := by
  unfold handRequest
  simp only [fixed_sgc, fixed_of_inner (inner_evalLookAhead _), fixed_of_inner (inner_takeRequest _ _)]

theorem fixed_handClimate (st : Option Step) (s : State) : fixedView (handClimate st s) = fixedView s := by
  unfold handClimate
  repeat' split
  all_goals simp only [fixed_of_inner (inner_handOver _ _)]

theorem fixed_loseProbe (s : State) : fixedView (loseProbe s) = fixedView s := by
  unfold loseProbe
  repeat' split
  all_goals simp only [fixed_addPause]

theorem fixed_judgeStart (st : Option Step) (s : State) : fixedView (judgeStart st s) = fixedView s := by
  unfold judgeStart
  dsimp only
  repeat' split
  all_goals simp only [fixed_loseProbe, fixed_run, fixed_of_inner (inner_judgeDegraded _)]

theorem fixed_beginStep (n : Nat) (s : State) : fixedView (beginStep n s) = fixedView s := by
  unfold beginStep
  simp only [fixed_judgeStart, fixed_handClimate, fixed_handRequest, fixed_latchStep, fixed_leavePause, fixed_run]

theorem fixed_recordEnd (c : EndCause) (s : State) : fixedView (recordEnd c s) = fixedView s := rfl

theorem fixed_startStep (fuel pos : Nat) (s : State) : fixedView (startStep fuel pos s) = fixedView s := by
  induction fuel generalizing pos s with
  | zero => rfl
  | succ n ih =>
    unfold startStep
    dsimp only
    repeat' split
    all_goals simp only [ih, fixed_lastStepEnded, fixed_recordEnd, fixed_beginStep]

theorem fixed_proceed (s : State) : fixedView (proceed s) = fixedView s := by
  unfold proceed
  dsimp only
  repeat' split
  all_goals simp only [fixed_startStep, fixed_lastStepEnded]

theorem fixed_endStep (c : EndCause) (s : State) : fixedView (endStep c s) = fixedView s := by
  unfold endStep
  dsimp only
  repeat' split
  all_goals simp only [fixed_proceed, fixed_recordEnd, fixed_raise, fixed_run]

theorem fixed_settleRun (s : State) : fixedView (settleRun s) = fixedView s := by
  unfold settleRun
  repeat' split
  all_goals simp only [fixed_endStep, fixed_settleEnding]

theorem fixed_runCavitySample (t : Int) (s : State) : fixedView (runCavitySample t s) = fixedView s := by
  unfold runCavitySample
  repeat' split
  all_goals simp only [fixed_endStep]

theorem fixed_runCoreSample (t : Int) (s : State) : fixedView (runCoreSample t s) = fixedView s := by
  unfold runCoreSample
  dsimp only
  repeat' split
  all_goals simp only [fixed_endStep, fixed_settleRun, fixed_dropPause]

theorem fixed_tickCounts (s : State) : fixedView (tickCounts s) = fixedView s := rfl

theorem fixed_stepTick (s : State) : fixedView (stepTick s) = fixedView s := by
  unfold stepTick
  dsimp only
  repeat' split
  all_goals simp only [fixed_endStep, fixed_enterEnding, fixed_tickCounts, fixed_run]

theorem fixed_soakReport (n : Nat) (s : State) : fixedView (soakReport n s) = fixedView s := by
  unfold soakReport
  repeat' split
  all_goals simp only [fixed_endStep]

theorem fixed_countFill (s : State) : fixedView (countFill s) = fixedView s := rfl

theorem fixed_sgcTick (s : State) : fixedView (sgcTick s) = fixedView s := by
  unfold sgcTick
  dsimp only
  repeat' split
  all_goals simp only [fixed_settleRun, fixed_tankEmptyReport, fixed_countFill, fixed_soakReport, fixed_sgc, fixed_of_inner (inner_fillTimesOut _), fixed_of_inner (inner_refillTimesOut _), fixed_of_inner (inner_boilerFaults _), fixed_of_inner (inner_drainCompletes _)]

theorem fixed_initRun (s : State) : fixedView (initRun s) = fixedView s := by
  unfold initRun
  dsimp only
  repeat' split
  all_goals simp only [fixed_setPause, fixed_run]

theorem fixed_sendSetpoints (a b : Latched) (s : State) : fixedView (sendSetpoints a b s) = fixedView s := by
  unfold sendSetpoints
  dsimp only
  repeat' split
  all_goals simp only [fixed_of_inner (inner_changeSetpoint _ _), fixed_of_inner (inner_changeHumSet _ _)]

theorem fixed_recompute (i : Fin 8) (s : State) : fixedView (recompute i s) = fixedView s := by
  unfold recompute
  dsimp only
  repeat' split
  all_goals simp only [fixed_sendSetpoints, fixed_run]

/-! ## The door and limit unit -/

theorem fixed_doorOpens (s : State) : fixedView (doorOpens s) = fixedView s := by
  unfold doorOpens
  simp only [fixed_pauseForDoor, fixed_evalLamp, fixed_evalFan, fixed_addReasonTo]
  rfl

theorem fixed_doorCloses (s : State) : fixedView (doorCloses s) = fixedView s := by
  unfold doorCloses
  simp only [fixed_settleRun, fixed_dropPause, fixed_evalLamp, fixed_evalFan, fixed_removeReasonFrom]
  rfl

theorem fixed_doorTakes (s : State) : fixedView (doorTakes s) = fixedView s := by
  unfold doorTakes
  repeat' split
  all_goals simp only [fixed_doorOpens, fixed_doorCloses]

theorem fixed_faultRun (s : State) : fixedView (faultRun s) = fixedView s := by
  unfold faultRun
  dsimp only
  repeat' split
  all_goals simp only [fixed_enterEnding, fixed_run]

theorem fixed_enterFaultMode (s : State) : fixedView (enterFaultMode s) = fixedView s := by
  unfold enterFaultMode
  simp only [fixed_faultRun, fixed_raise, fixed_setAux, fixed_addReasonTo, fixed_noteMode]
  rfl

theorem fixed_limitCause (s : State) : fixedView (limitCause s) = fixedView s := by
  unfold limitCause
  dsimp only
  split
  · rw [fixed_enterFaultMode]; rfl
  · rfl

theorem fixed_sensorCause (s : State) : fixedView (sensorCause s) = fixedView s := by
  unfold sensorCause
  dsimp only
  split
  · rw [fixed_enterFaultMode]; rfl
  · rfl

theorem fixed_limitCavitySample (t : Int) (s : State) : fixedView (limitCavitySample t s) = fixedView s := by
  unfold limitCavitySample
  repeat' split
  all_goals simp only [fixed_limitCause]

theorem fixed_cavitySample (t : Int) (s : State) : fixedView (cavitySample t s) = fixedView s := by
  unfold cavitySample
  dsimp only
  repeat' split
  all_goals simp only [fixed_runCavitySample, fixed_limitCavitySample, fixed_evalFan]

theorem fixed_clearOvenFault (s : State) : fixedView (clearOvenFault s) = fixedView s := by
  unfold clearOvenFault
  simp only [fixed_noteMode, fixed_setAux, fixed_removeReasonFrom]
  rfl

end Sys2Proof.Machine
end

