-- ==== Sys2Proof/Tests/Slice0.lean ====
section
/-!
SUPPORT. The model's own tests: ill-formed commands that WellFormed refuses, figures of the manual's worked tables,
commands on small states, and for each statement with hypotheses a state and operands that meet them.
-/

namespace Sys2Proof.Tests

open Sys2Proof.Machine

/-! ## Small states -/

/-- The part released with the strap low and the door closed: STANDBY. -/
def standby : State := released false .closed []

/-- The part released with the strap high: SERVICE. -/
def service : State := released true .closed []

/-- The state after one command. -/
def after (i : Instr) (s : State) : State :=
  match exec i s with
  | .next t => t
  | .fault _ | .refused _ => s

/-- The result code of the response being sent. -/
def result (s : State) : Option ResultCode := s.lif.response.map fun r => r.result

/-- The body of the response being sent. -/
def body (s : State) : Option (List Byte) := s.lif.response.map fun r => r.body

/-- The turn given back. -/
def hear (s : State) : State := { s with lif := { s.lif with rx := .hunt, response := .none } }

/-- The analog record at a filtered value. -/
def at_ (t : Int) : Analog := { raw := t, filtered := some t, fault := false, badRun := 0, goodRun := 0 }

/-- The boiler in a state. -/
def boilerIn (b : BoilerState) (s : State) : State := { s with sgc := { s.sgc with state := b } }

/-- An expression without variables. -/
def plain (v : Int) : Expr := { disp := v, base := .none, index := .none, scale := 1, minus := false }

/-- A CONVECT step of 600 s at 180.0 °C. -/
def roast : ClimateStep where
  mode := 1
  temp := some (plain 1800)
  humidity := .none
  endCond := .time
  duration := some (plain 600)
  core := .none
  onEnd := .continue
  vent := .auto
  prompt := 3

/-- A variable of 100 in 50 to 200. -/
def oneVar : Variable := { value := 100, min := 50, max := 200 }

/-- A program of two steps in records 0 and 1. -/
def program : Program where
  tag := 7
  steps := [0, 1]
  vars := (Vector.replicate 8 .none).set 0 (some oneVar)
  keepWarm := some 700

/-- STANDBY with the program in slot 2: the roast, then a CONFIRM. -/
def stored : State :=
  { standby with pst :=
    { programs := (Vector.replicate 6 .none).set 0 (some program)
      pool := ((Vector.replicate 96 .none).set 0 (some (.climate roast))).set 1 (some (.confirm 9)) } }

/-- A slot with RING in it, its solo slot where asked. -/
def ringSlot (solo : Bool) : Slot where
  placed := { top := false, bottom := false, ring := true, grill := false, boiler := false }
  soloA := if solo then some .ring else .none
  soloB := .none

/-- The roast running, 5 s into its step, with RING on in half-cycle 5 of its solo slot. -/
def cooking : State :=
  let s := stored
  { s with
    ldt := { s.ldt with
      loads := s.ldt.loads.set .ring { s.ldt.loads.ring with demand := 16, served := 16, on := true }
      aux := { s.ldt.aux with fan := .high, lamp := true }
      measA := some { load := .ring, count := 4, offSum := 2480, onSum := 0, voltSum := 0, void := false } }
    par := { s.par with frame := { s.par.frame with
      state := .firing, slot := 0, half := 5, grid := ringSlot true :: List.replicate 15 (ringSlot false) } }
    clc := { s.clc with
      climate := stepClimate s 1 (some 1800) .none .auto, loopTimer := some 4, heat := 1000, integral := 6000 }
    run := { s.run with
      slot := some 2, state := .active, position := some 0, elapsedS := 5, totalS := 5
      latched := { temp := some 1800, duration := some 600 } }
    dlu := { s.dlu with door := .closed, debounce := false }
    lif := { s.lif with silence := true }
    pending := [.stepTick] }

/-! ## WellFormed refuses -/

theorem test_wf_raw : (Instr.analogSample .cavity 40000).wf = false := by decide
theorem test_wf_probe : (Instr.probeSample .present (-32769)).wf = false := by decide
theorem test_wf_volts : (Instr.zeroCross ⟨10000, 65536, 0, 0⟩).wf = false := by decide
theorem test_wf_amps_a : (Instr.slotEnd ⟨10000, 0, 65536, 0⟩).wf = false := by decide
theorem test_wf_amps_b : (Instr.frameBoundary ⟨10000, 0, 0, 65536⟩).wf = false := by decide
theorem test_wf_baseline : (Instr.soloBaselineEnd ⟨10000, 65536, 0, 0⟩).wf = false := by decide
theorem test_wf_right_check : (Instr.badCheckFrame 1 [] 0).wf = false := by decide
theorem test_wf_long_bad_check : (Instr.badCheckFrame 1 (List.replicate 49 0) 1).wf = false := by decide
theorem test_wf_known_code : (Instr.unknownRequest 0x5F []).wf = false := by decide
theorem test_wf_long_unknown : (Instr.unknownRequest 0x77 (List.replicate 49 0)).wf = false := by decide
theorem test_wf_placement : (Instr.setPlacement [0, 1, 2]).wf = false := by decide
theorem test_wf_rotation : (Instr.setRotation 2 0 (some [0, 1, 2, 3, 4, 4])).wf = false := by decide

/-! ## The manual's worked figures -/

/-- Table 1.3. -/
theorem test_filter_warm :
    ([1700, 1700, 1600, 1652, 1652, 1651, 1650].foldl
      (fun p r => let a := (sampleAnalog true r p.1).1; (a, p.2 ++ [a.filtered])) (at_ 1650, [])).2
      = [1662, 1671, 1654, 1654, 1654, 1654, 1653].map some := by decide

/-- R3: a cold channel seeded at 200. -/
theorem test_filter_cold :
    ([200, 1000, 1000, 1000, 1000, 1000, 1000].foldl
      (fun p r => let a := (sampleAnalog true r p.1).1; (a, p.2 ++ [a.filtered])) (Analog.unsettled, [])).2
      = [200, 400, 550, 662, 746, 809, 856].map some := by decide

/-- Table 1.4. -/
theorem test_fault_sequence :
    ([1804, 4095, 4095, 1805, 4095, 4095, 4095, 1790, 4095, 1792, 1793, 1795].foldl
      (fun p r => let a := (sampleAnalog (decide (r ≤ 4000)) r p.1).1; (a, p.2 ++ [(a.badRun, a.goodRun, a.fault)]))
      (at_ 1800, [])).2
      = [(0, 0, false), (1, 0, false), (2, 0, false), (0, 0, false), (1, 0, false), (2, 0, false), (3, 0, true),
         (0, 1, true), (1, 0, true), (0, 1, true), (0, 2, true), (0, 0, false)] := by decide

/-- The measured power and the health of Table 2.6's means. -/
def judged (rated off on : Nat) : Nat × Health :=
  let m : Measurement :=
    { load := .ring, count := 100, offSum := 4 * off, onSum := 96 * on, voltSum := 96 * 2304, void := false }
  (measuredPower 100 m, healthBand (measuredPower 100 m * 100 / rated))

/-- Table 2.6. -/
theorem test_measurements :
    [judged 2000 620 9380, judged 2000 620 5820, judged 1200 620 7120, judged 1100 620 660]
      = [(2018, .good), (1198, .weak), (1498, .high), (9, .opened)] := by decide

/-- Table 2.7, and the limits of R32. -/
theorem test_overload :
    wattsOf 2300 19130 = 4400 ∧ wattsOf 2300 14348 = 3300 ∧ 3505 * 110 / 100 = 3855
      ∧ overloaded Par.reset.frame.inForce .b 2300 19130 = true := by decide

/-- A state whose next build is asked for these demands, on a SINGLE leg of this budget. -/
def asked (budget : Nat) (top bottom ring boiler : Nat) (s : State) : State :=
  let d (n : Nat) (l : Load) : Load := { l with demand := n, verifyDue := false, mask := {} }
  { s with
    ldt := { s.ldt with loads :=
      { top := d top s.ldt.loads.top, bottom := d bottom s.ldt.loads.bottom, ring := d ring s.ldt.loads.ring
        grill := d 0 s.ldt.loads.grill, boiler := d boiler s.ldt.loads.boiler } }
    par := { s.par with supply := { s.par.supply with connection := .single, budgetA := budget } } }

/-- Table 3.6: served, shortfall and the rotated list. -/
theorem test_combi_frame :
    (let s := rotateClasses (build (asked 3500 0 0 10 8 standby))
     ((load s .boiler).served, (load s .ring).served, (load s .ring).shortfall, s.par.lists.c2,
       (List.range 16).map fun n => legSum s.par.frame.inForce (slotOf s.par.frame.grid n) .a))
      = (8, 8, 2, [.top, .bottom, .grill, .ring],
         [1800, 2000, 1800, 2000, 1800, 2000, 1800, 2000, 1800, 2000, 1800, 2000, 1800, 2000, 1800, 2000]) := by decide

/-- Tables 3.7 and 3.8. -/
theorem test_solo_frame :
    (let s := { standby with ldt := { standby.ldt with loads :=
       { standby.ldt.loads with
         grill := { standby.ldt.loads.grill with demand := 10, measuredW := some 1985 }
         boiler := { standby.ldt.loads.boiler with
           demand := 16, measuredW := some 1790, verifyDue := false, mask := {} } } } }
     let t := build s
     ((load t .boiler).served, (load t .boiler).shortfall, (load t .grill).served, (load t .grill).shortfall,
       (slotOf t.par.frame.grid 0).soloB, legSum t.par.frame.inForce (slotOf t.par.frame.grid 0) .b,
       legSum t.par.frame.inForce (slotOf t.par.frame.grid 15) .b))
      = (15, 1, 1, 9, some .grill, 1985, 1790) := by decide

/-- Table 3.9. -/
theorem test_rotation_frames :
    (let s1 := rotateClasses (build (asked 2000 10 16 0 0 standby))
     let s2 := rotateClasses (build s1)
     let s3 := rotateClasses (build s2)
     [s1, s2, s3].map fun s => ((load s .top).served, (load s .bottom).served, s.par.lists.c2))
      = [(10, 6, [.bottom, .ring, .grill, .top]), (0, 16, [.ring, .grill, .top, .bottom]),
         (10, 6, [.ring, .grill, .bottom, .top])] := by decide

/-- One row of Table 4.4: H and I16 after. -/
def loopRow (s t : Int) (i16 : Nat) : Nat × Nat :=
  let e := loopError s t
  let i := integralNext 6 e i16
  let raw := heatRaw 40 e i
  (heatOf raw, integralAfter false raw e i i16)

/-- Table 4.4. -/
theorem test_loop_updates :
    [loopRow 1800 1650 4000, loopRow 1800 1950 4056, loopRow 1800 2800 800, loopRow 1800 1900 800, loopRow 1800 1860 800]
      = [(346, 4056), (157, 4000), (0, 800), (0, 800), (11, 778)] := by decide

/-- Table 4.5, updates 1, 8, 16 and 17. -/
theorem test_warm_up :
    [loopRow 2200 200 0, loopRow 2200 200 2625, loopRow 2200 200 5625, loopRow 2200 200 6000]
      = [(648, 375), (812, 3000), (1000, 6000), (1000, 6000)] := by decide

/-- Table 4.6. -/
theorem test_quanta :
    ([0, 31, 32, 94, 346, 500, 968, 969, 1000].map fun h => (quantaOf h 100, quantaOf h 60, quantaOf h 40))
      = [(0, 0, 0), (0, 0, 0), (1, 0, 0), (2, 1, 1), (6, 3, 2), (8, 5, 3), (15, 9, 6), (16, 9, 6), (16, 10, 6)] := by
  decide

/-- Table 4.7. -/
theorem test_humidity :
    ([40, 52, 58, 60, 65].map fun h => (humidDemand 8 60 h, humQuantaOf (humidDemand 8 60 h)))
      = [(1000, 16), (640, 10), (160, 3), (0, 0), (0, 0)] := by decide

/-- The two STEAMING demands that follow Table 5.3, and the DERATE cap. -/
theorem test_boiler_demand :
    (let s (d : Nat) (on : Bool) (g : Stage) : State :=
       { standby with sgc := { standby.sgc with state := .steaming, humQuanta := d, thermostat := on }
                      sca := { standby.sca with stage := g } }
     (boilerDemand (s 10 true .clear), boilerDemand (s 10 true .derate), boilerDemand (s 3 false .clear)))
      = (16, 12, 3) := by decide

/-- Table 6.2. -/
theorem test_stages :
    ([2999, 3000, 4499, 4500, 5999, 6000, 65535].map fun m => stageOf { standby.sca with scaleMg := m })
      = [.clear, .advise, .advise, .derate, .derate, .lock, .lock] := by decide

/-- The deposits of section 6.1. -/
theorem test_deposits :
    ([(150, 180), (150, 3), (150, 4), (400, 1000)].map fun p =>
      depositMg { standby.sca with fillMl := p.1, hardness := p.2 }) = [27, 0, 1, 400] := by decide

/-- The variables of Table 7.6, with a chosen value in variables 0 to 3. -/
def tableVars (v0 v1 v2 v3 : Nat) : Vector (Option Variable) 8 :=
  #v[some ⟨v0, 1000, 2500⟩, some ⟨v1, 0, 60⟩, some ⟨v2, 0, 10000⟩, some ⟨v3, 500, 900⟩, .none, .none, .none, .none]

/-- Table 7.6. -/
theorem test_expressions :
    (let d : Expr := { disp := 900, base := .none, index := some 2, scale := 8, minus := false }
     let t : Expr := { disp := -200, base := some 0, index := .none, scale := 1, minus := false }
     let h : Expr := { disp := 100, base := .none, index := some 1, scale := 2, minus := true }
     let c : Expr := { disp := 0, base := some 3, index := .none, scale := 1, minus := false }
     [evalExpr (tableVars 1800 30 140 720) (0, 65535) d, evalExpr (tableVars 1800 30 8000 720) (0, 65535) d,
      evalExpr (tableVars 1800 30 9000 720) (0, 65535) d,
      evalExpr (tableVars 1800 30 140 720) (tempRange (defaultTable[4])) t,
      evalExpr (tableVars 1600 30 140 720) (tempRange (defaultTable[4])) t,
      evalExpr (tableVars 1800 30 140 720) (0, 100) h, evalExpr (tableVars 1800 60 140 720) (0, 100) h,
      evalExpr (tableVars 1800 30 140 720) (200, 990) c])
      = [(2020, false), (64900, false), (65535, true), (1600, false), (1500, true), (40, false), (0, true),
         (720, false)] := by decide

/-! ## Events, one step each -/

/-- A qualified zero-cross of a half-cycle at 230 V. -/
def crossing : Crossing := { intervalUs := 10000, volts := 2300, ampsA := 9000, ampsB := 0 }

/-- The roast at the end of a slot. -/
def slotEnding (slot : Nat) : State :=
  { cooking with
    msu := { cooking.msu with zcSeen := true, halfOpen := true }
    par := { cooking.par with frame := { cooking.par.frame with slot := slot, half := 100 } } }

theorem test_release_with_strap :
    ovenMode (after (.resetRelease true .opened) cooking) = .service := by decide

theorem test_cavity_seeds : (after (.analogSample .cavity 200) standby).msu.cavity.filtered = some 200 := by decide

theorem test_cavity_limit :
    (let t := after (.analogSample .cavity 3500) cooking
     (ovenMode t, t.ldt.aux.coolFan, (load t .ring).on, t.lif.notices.faultMode)) = (.fault, true, false, true) := by decide

theorem test_probe_first :
    (let t := after (.probeSample .present 250) standby
     (t.msu.probe.reported, t.msu.core.filtered)) = (.present, some 250) := by decide

theorem test_probe_removed_is_counted :
    (let s := { standby with msu := { standby.msu with probeSeen := true, probe := { reported := .present, changeRun := 1 } } }
     (after (.probeSample .absent 250) s).msu.probe) = { reported := .present, changeRun := 2 } := by decide

theorem test_electrodes_first_wet :
    (let t := after (.electrodeSample .wet .dry) standby
     (t.sgc.state, t.sgc.content, t.ldt.aux.drainPump)) = (.draining, .unknown, true) := by decide

/-- The boiler STEAMING with LOW about to fall dry. -/
def steaming : State :=
  { standby with
    msu := { standby.msu with electrodesSeen := true, low := { reported := .wet, changeRun := 2 } }
    sgc := { standby.sgc with
      state := .steaming, content := .water, purpose := .cook, needsSteam := true, share := 3, demand := 3 }
    ldt := { standby.ldt with loads := standby.ldt.loads.set .boiler { standby.ldt.loads.boiler with mask := {} } } }

/-- Table 5.4, the evaporation at 1160 s, and its 27 mg. -/
theorem test_evaporation :
    (let t := after (.electrodeSample .dry .dry) steaming
     (t.sgc.state, t.sgc.prior, t.ldt.aux.feedPump, t.sca.scaleMg)) = (.refilling, some .steaming, true, 27) := by decide

theorem test_mains_skipped : (after (.mainsSample .voltage) standby).msu.voltage = .unsettled := by decide

theorem test_first_cross_begins_frame :
    (let t := after (.zeroCross crossing) standby
     (t.par.frame.state, t.par.frame.slot, t.par.frame.half, t.msu.latest)) = (.firing, 0, 1, .none) := by decide

theorem test_short_cross_ignored :
    after (.zeroCross { crossing with intervalUs := 5999 }) (slotEnding 0) = slotEnding 0 := by decide

/-- RING: 2300 × 8760 / 10000 rounds to 2015 W; TOP's share of the leg is none. -/
theorem test_slot_end :
    (let s := slotEnding 0
     let m : Measurement :=
       { load := .ring, count := 99, offSum := 2480, onSum := 95 * 9380, voltSum := 95 * 2300, void := false }
     let t := after (.slotEnd { crossing with ampsA := 9380 }) { s with ldt := { s.ldt with measA := some m } }
     (t.par.frame.slot, t.par.frame.half, (load t .ring).measuredW, (load t .ring).health, (load t .ring).on))
      = (1, 1, some 2015, .good, true) := by decide

theorem test_frame_boundary :
    (let t := after (.frameBoundary crossing) (slotEnding 15)
     (t.par.frame.slot, t.par.frame.half, (load t .ring).served, (slotOf t.par.frame.grid 0).soloA))
      = (0, 1, 16, some .ring) := by decide

theorem test_baseline_end :
    (let s := { cooking with
       msu := { cooking.msu with zcSeen := true }
       par := { cooking.par with frame := { cooking.par.frame with half := 4 } }
       ldt := { cooking.ldt with loads := cooking.ldt.loads.set .ring { cooking.ldt.loads.ring with on := false } } }
     let t := after (.soloBaselineEnd crossing) s
     ((load t .ring).on, t.par.frame.half)) = (true, 5) := by decide

theorem test_supply_loss :
    (let t := after .supplyLoss cooking
     (t.par.frame.state, (load t .ring).on, (load t .boiler).mask.supply)) = (.halted, false, true) := by decide

/-- The roast with the door switch reading OPEN. -/
def doorMoved : State := { cooking with dlu := { cooking.dlu with input := .opened, debounce := true } }

theorem test_door_switch : after (.doorSwitchChange .opened) cooking = doorMoved := by decide

theorem test_door_opens :
    (let t := after .doorDebounceExpiry doorMoved
     (t.dlu.door, (load t .ring).on, t.run.pause.door, (load t .boiler).mask.door, t.ldt.aux.fan, t.lif.notices.doorPause))
      = (.opened, false, true, false, .off, true) := by decide

/-- Table 4.4, first row, and the RING quanta of Table 4.6 at 346. -/
theorem test_loop_update :
    (let s := { cooking with
       msu := { cooking.msu with cavity := at_ 1650 }
       clc := { cooking.clc with integral := 4000 } }
     let t := after .loopUpdate s
     (t.clc.heat, t.clc.integral, (load t .ring).demand)) = (346, 4056, 6) := by decide

theorem test_clock_counts_a_fill :
    (after .sgcClockTick { standby with sgc := { standby.sgc with state := .filling, fillTimer := 41 } }).sgc.fillTimer = 42 := by
  decide

theorem test_fill_timeout :
    (let t := after .fillTimeout { standby with sgc := { standby.sgc with
       state := .filling, fillTimer := 89, request := .fill .water } }
     (t.sgc.state, t.sgc.tankEmpty, t.lif.notices.tankEmpty)) = (.empty, true, true) := by decide

/-- Table 5.5, at 90 s. -/
theorem test_refill_timeout :
    (let t := after .refillTimeout { steaming with
       msu := { steaming.msu with low := { reported := .dry, changeRun := 0 } }
       sgc := { steaming.sgc with state := .refilling, prior := some .steaming, fillTimer := 89 } }
     (t.sgc.state, t.sgc.drainCount, t.ldt.aux.feedPump, t.ldt.aux.drainPump, t.sgc.content))
      = (.draining, some 0, false, true, .water) := by decide

theorem test_heat_timeout :
    (let t := after .heatTimeout { steaming with sgc := { steaming.sgc with state := .heating, heatCount := 599 } }
     (t.sgc.state, (load t .boiler).mask.dryfire, t.lif.notices.boilerFault)) = (.fault, true, true) := by decide

/-- A descale of 1500 s credits the account (R112). -/
theorem test_drain_complete :
    (let t := after .drainComplete { standby with
       sgc := { standby.sgc with
         state := .draining, drainCount := some 39, content := .descaler, purpose := .descale, soakedS := some 1500 }
       sca := { standby.sca with scaleMg := 6021, stage := .lock, rinseDue := true } }
     (t.sgc.state, t.sca.scaleMg, t.sca.stage, t.sca.rinseDue)) = (.empty, 0, .clear, true) := by decide

/-- DESCALE at its soak, one second before its duration. -/
def descaling : State :=
  { standby with
    run := { standby.run with
      slot := some 0, state := .active, position := some 3, latched := { temp := some 600, duration := some 1800 } }
    sgc := { standby.sgc with
      state := .soaking, request := .soak 600, served := true, soakedS := some 1799, content := .descaler
      purpose := .descale }
    msu := { standby.msu with boiler := at_ 590 } }

theorem test_soak_ends :
    (let t := after .soakDurationReached descaling
     (t.run.position, t.sgc.state, t.sgc.soakedS, t.run.lastEnd.map fun e => e.cause))
      = (some 4, .draining, some 1800, some .condition) := by decide

theorem test_step_tick :
    (let t := after .stepTick cooking
     (t.run.elapsedS, t.run.totalS)) = (6, 6) := by decide

theorem test_step_duration :
    (let t := after .stepDurationExpiry { cooking with run := { cooking.run with elapsedS := 599 } }
     (t.run.position, t.run.state, t.run.awaiting, currentPrompt t)) = (some 1, .awaitConfirm, some .step, some 9) := by decide

/-- Keep-warm, one second before its end. -/
def keptWarm : State :=
  { cooking with
    run := { cooking.run with state := .holding, position := some 1, holdS := 3599, latched := {} }
    clc := { cooking.clc with climate := holdClimate cooking 700 } }

theorem test_hold_timeout :
    (let t := after .holdTimeout keptWarm
     (t.run.state, t.run.outcome, t.run.holdS, t.lif.notices.programEnded)) = (.idle, some .completed, 3600, true) := by decide

/-- Table 10.2: the length byte of SET_LOOP. -/
theorem test_link_length :
    (let t := after (.linkByte 6) { standby with lif := { standby.lif with rx := .length, gap := true } }
     (t.lif.rx, t.lif.length, t.lif.gap)) = (.body, 6, true) := by decide

theorem test_link_bad_length :
    (after (.linkByte 0xA7) { standby with lif := { standby.lif with rx := .length, gap := true } }).lif.rx = .hunt := by decide

/-- Table 10.2 at 10.9 ms. -/
theorem test_gap_timeout :
    after .gapTimeout { standby with lif := { standby.lif with rx := .body, length := 6, buffer := [0x15, 40, 6, 8, 4], gap := true } }
      = { standby with lif := { standby.lif with length := 6 } } := by decide

theorem test_response_complete :
    (after .responseComplete (after .readScale standby)).lif.rx = .hunt := by decide

theorem test_link_silence :
    (let t := after .linkSilence cooking
     (t.lif.silent, t.run.pause.link, (load t .ring).on)) = (true, true, false) := by decide

theorem test_bad_check : result (after (.badCheckFrame 0x31 [] 0) cooking) = some .check := by decide

theorem test_unknown_code : result (after (.unknownRequest 0x77 []) standby) = some .unknown := by decide

/-! ## Requests, one step each -/

theorem test_read_status_length : (statusBody cooking).length = 97 := by decide

/-- Table 10.8, bytes 0 to 7 of the status body: RUNNING, no notice, slot 2, ACTIVE, position 0. -/
theorem test_read_status :
    (body (after .readStatus cooking)).map (List.take 8) = some [1, 0, 0, 1, 2, 1, 1, 0] := by decide

theorem test_read_measurements :
    (body (after .readMeasurements { standby with msu := { standby.msu with cavity := at_ 1650 } })).map (List.take 4)
      = some [1, 0x06, 0x72, 0] := by decide

theorem test_read_load :
    (body (after (.readLoad 4) standby)).map (List.take 8) = some [4, 0x07, 0x08, 1, 1, 0, 0, 8] := by decide

theorem test_read_load_five : result (after (.readLoad 5) standby) = some .noSuch := by decide

theorem test_read_frame : (body (after .readFrame standby)).map (List.take 3) = some [0, 0, 0] := by decide

theorem test_read_program_eight : result (after (.readProgram 8) standby) = some .noSuch := by decide

/-- The first step of RINSE: CONFIRM with prompt 252, no record number. -/
theorem test_read_step :
    (body (after (.readStep 1 0) standby)).map (List.take 9) = some [1, 0, 0, 0, 0, 0, 0, 252, 0] := by decide

theorem test_read_scale :
    (body (after .readScale standby)).map (List.take 5) = some [0, 0, 0, 0x0B, 0xB8] := by decide

/-- A part with two notices. -/
def noticed : State :=
  { standby with lif := { standby.lif with notices := { stepEnded := true, faultMode := true } } }

theorem test_read_notices : body (after .readNotices noticed) = some [0x20, 0x01] := by decide

theorem test_clear_notices :
    (let t := after (.clearNotices 0x2000) noticed
     (body t, attn t)) = (some [0x00, 0x01], true) := by decide

theorem test_clear_notices_range : result (after (.clearNotices 0x4000) noticed) = some .range := by decide

theorem test_set_load :
    (let t := after (.setLoad 2 1900 1 0) standby
     ((load t .ring).ratedW, t.par.lists.c1, t.par.lists.c2)) = (1900, [.boiler, .ring], [.top, .bottom, .grill]) := by decide

theorem test_set_supply :
    (after (.setSupply ⟨0, 3500, 3500, 150, 0, 100⟩) standby).par.supply.connection = .single := by decide

theorem test_set_placement_twice :
    result (after (.setPlacement [0, 1, 2, 3, 4, 5, 6, 7, 8, 9, 10, 11, 12, 13, 14, 14]) standby) = some .duplicate := by decide

theorem test_set_rotation :
    (after (.setRotation 2 0 (some [3, 2, 1, 0])) standby).par.lists.c2 = [.grill, .ring, .bottom, .top] := by decide

theorem test_set_mode_entry :
    result (after (.setModeEntry ⟨1, 0, 0, 101, 0, 0, 2, 1, 0, 300, 2500⟩) standby) = some .range := by decide

theorem test_set_loop :
    (after (.setLoop 50 7 9 5 6) standby).clc.loop = { kp := 50, ki := 7, ks := 9, period := 5, band := 6 } := by decide

/-- The hardness is clamped to 1000 (R114). -/
theorem test_set_water : (after (.setWater ⟨1200, 150, 3000, 4500, 6000⟩) standby).sca.hardness = 1000 := by decide

theorem test_set_scale :
    (let t := after (.setScale 6000 1 180) standby
     (t.sca.stage, t.sca.rinseDue, t.sca.restored, t.lif.notices.scaleAdvise, t.lif.notices.scaleLock))
      = (.lock, true, true, true, true) := by decide

/-- Four absent variable entries. -/
def noVars : RawVars :=
  let v : RawVar := { presence := 0, value := 0, min := 0, max := 0 }
  { v0 := v, v1 := v, v2 := v, v3 := v }

theorem test_define_part0 :
    ((after (.defineProgramPart0 3 0 8 700 noVars) standby).lif.pendingDef.map fun d => (d.slot, d.tag, d.keepWarm))
      = some (3, 8, some 700) := by decide

theorem test_define_part1_without_part0 : result (after (.defineProgramPart1 3 1 noVars) standby) = some .state := by decide

theorem test_retire :
    (let t := after (.retireProgram 2) stored
     (userProgram t 2, freeCount t)) = (.none, 96) := by decide

/-- An absent expression. -/
def noExpr : RawExpr := { disp := 0, base := 0, index := 0, scale := 0 }

/-- A CONFIRM step as it crosses the link. -/
def rawConfirm : RawStep :=
  { kind := 1, mode := 0, endCond := 0, onEnd := 0, vent := 0, prompt := 5, presence := 0
    temp := noExpr, humidity := noExpr, duration := noExpr, core := noExpr }

theorem test_append :
    (let t := after (.appendStep 2 rawConfirm) stored
     (body t, (userProgram t 2).map fun p => p.steps)) = (some [2, 2], some [0, 1, 2]) := by decide

theorem test_insert :
    ((userProgram (after (.insertStep 2 0 rawConfirm) stored) 2).map fun p => p.steps) = some [2, 0, 1] := by decide

theorem test_insert_at_current : result (after (.insertStep 2 0 rawConfirm) cooking) = some .inUse := by decide

theorem test_replace : (after (.replaceStep 2 1 rawConfirm) stored).pst.pool[1] = some (.confirm 5) := by decide

theorem test_delete :
    (let t := after (.deleteStep 2 0) stored
     ((userProgram t 2).map fun p => p.steps, freeCount t)) = (some [1], 95) := by decide

theorem test_set_variable : body (after (.setVariable 2 0 900) stored) = some [0, 200] := by decide

theorem test_start :
    (let t := after (.start 2) stored
     (ovenMode t, t.run.state, t.run.latched.temp, t.clc.climate.setpoint, (load t .ring).demand))
      = (.running, .active, some 1800, some 1800, 0) := by decide

theorem test_start_rinse :
    (let t := after (.start 1) standby
     (t.run.state, t.run.awaiting, currentPrompt t)) = (.awaitConfirm, some .step, some 252) := by decide

theorem test_pause :
    (let t := after .pause cooking
     (t.run.pause.host, (load t .ring).on, (load t .boiler).mask.pause)) = (true, false, true) := by decide

theorem test_resume_unpaused : result (after .resume cooking) = some .state := by decide

/-- The roast waiting at its CONFIRM step. -/
def waiting : State :=
  { cooking with run := { cooking.run with state := .awaitConfirm, position := some 1, awaiting := some .step, latched := {} } }

theorem test_confirm :
    (let t := after .confirm waiting
     (t.run.state, t.run.lastEnd.map fun e => e.cause, t.clc.climate.setpoint)) = (.holding, some .confirm, some 700) := by decide

theorem test_skip :
    (let t := after .skip cooking
     (t.run.position, t.run.lastEnd.map fun e => (e.cause, e.marks.skipped))) = (some 1, some (.skip, true)) := by decide

theorem test_adjust_temp :
    (let t := after (.adjustTemp 3000) cooking
     (t.run.latched.temp, t.clc.climate.setpoint, t.run.marks.clamped, body t))
      = (some 2500, some 2500, true, some [0x09, 0xC4]) := by decide

theorem test_adjust_humidity_unlatched : result (after (.adjustHumidity 50) cooking) = some .state := by decide

theorem test_adjust_duration : (after (.adjustDuration 60) cooking).run.latched.duration = some 65 := by decide

theorem test_end_hold : (after .endHold keptWarm).run.outcome = some .completed := by decide

theorem test_abort : (after .abort cooking).run.outcome = some .aborted := by decide

theorem test_rotate_lowest :
    (after (.rotateLowest 0) standby).par.lists.c2 = [.bottom, .ring, .grill, .top] := by decide

theorem test_verify :
      (let r : Load := { standby.ldt.loads.ring with verifyDue := false }
     let s := { standby with ldt := { standby.ldt with loads := standby.ldt.loads.set .ring r } }
     (load (after (.verify 2) s) .ring).verifyDue) = true := by decide

/-- The cavity latched in FAULT mode and cooled, the boiler in FAULT and cooled, RING judged HIGH. -/
def faulty : State :=
  { standby with
    dlu := { standby.dlu with latch := true, causeLimit := true }
    msu := { standby.msu with cavity := at_ 3000, boiler := at_ 999 }
    sgc := { standby.sgc with state := .fault, content := .water, purpose := .cook }
    ldt := { standby.ldt with loads :=
      { standby.ldt.loads with
        ring := { standby.ldt.loads.ring with health := .high, measuredW := some 3300, mask := { health := true } } } } }

theorem test_clear_oven : ovenMode (after (.clearFaultOven 0) faulty) = .standby := by decide

theorem test_clear_boiler :
    (let t := after (.clearFaultBoiler 0) faulty
     (t.sgc.state, t.sgc.content, t.sgc.purpose)) = (.draining, .water, .cook) := by decide

theorem test_clear_load :
    (let t := after (.clearFaultLoad 2) faulty
     ((load t .ring).health, (load t .ring).mask, (load t .ring).measuredW)) = (.untested, {}, .none) := by decide

theorem test_force_on : (load (after (.forceOn 0) service) .top).demand = 16 := by decide

theorem test_force_off : (load (after (.forceOff 0) service) .top).mask.forceOff = true := by decide

theorem test_force_release : (after (.forceRelease 0) (hear (after (.forceOn 0) service))).svc.forcing.top = .none := by decide

theorem test_pattern_all_off :
    (let t := after .patternAllOff service
     allLoads.map fun l => (load t l).mask.forceOff) = [true, true, true, true, true] := by decide

theorem test_pattern_walk :
    (let t := after .patternWalk service
     allLoads.map fun l => (load t l).demand) = [16, 0, 0, 0, 0] := by decide

/-- Table 11.3, the EVEN step. -/
theorem test_pattern_alternate :
    (let t := after .patternAlternate service
     allLoads.map fun l => (load t l).demand) = [16, 0, 16, 0, 16] := by decide

theorem test_pattern_none : (after .patternNone service).svc.pattern = .none := by decide

theorem test_init :
    (let t := after .init cooking
     (ovenMode t, t.run.outcome, (load t .ring).on, t.clc.climate.kind, t.par.frame.state))
      = (.standby, some .aborted, false, .none, .waiting) := by decide

/-! ## A lawful state -/

/-- A property of every slot number follows from the slots listed and the empty one. -/
theorem slotOf_all {P : Slot → Prop} {g : List Slot} (h : ∀ t, t ∈ g → P t) (h0 : P .empty) (n : Nat) : P (slotOf g n) := by
  unfold slotOf
  rw [List.getD_eq_getElem?_getD]
  cases hn : g[n]? with
  | none => exact h0
  | some t => exact h t (List.mem_of_getElem? hn)

theorem firing_cooking : FiringLaw cooking where
  on_allowed l := by cases l <;> decide
  capacity n g := by
    refine slotOf_all (P := fun t => legSum cooking.par.frame.inForce t g ≤ cooking.par.frame.inForce.cap g) ?_ ?_ n
    · cases g <;> decide
    · cases g <;> decide
  solo n g l h k := by
    revert h k
    refine slotOf_all (P := fun t => soloOn t g = some l → ∀ k, placedOn cooking.par.frame.inForce t g k = (k == l)) ?_ ?_ n
    · intro t ht h k
      have : t = ringSlot true ∨ t = ringSlot false := by simpa [cooking] using ht
      rcases this with rfl | rfl <;> cases g <;> cases l <;> revert h <;> cases k <;> decide
    · intro h; cases g <;> cases h

theorem solo_cooking : SoloLaw cooking where
  baseline l := by cases l <;> decide
  held g m h := by cases g <;> cases h; rfl
  standing g m h _ := by cases g <;> cases h; decide
  fired g m h _ _ _ := by cases g <;> cases h; decide

theorem pause_cooking : PauseLaw cooking where
  masks l := by cases l <;> decide
  taken r := by cases r <;> decide

theorem boiler_cooking : BoilerLaw cooking := by constructor <;> first | decide | (intro h; exact absurd h (by decide))

theorem scale_cooking : ScaleLaw cooking := by constructor <;> decide

theorem list_cooking : ListLaw cooking where
  own_class l := by cases l <;> decide
  once c hc l := by
    have : c = 0 ∨ c = 1 ∨ c = 2 ∨ c = 3 := by omega
    rcases this with rfl | rfl | rfl | rfl <;> cases l <;> decide
  placement := by decide

theorem config_cooking : ConfigLaw cooking where
  budgets := by decide
  reserves := by decide
  slotHc := by decide
  loads l := by cases l <;> decide
  entries := by decide
  ranges := by
    intro i r h
    have key : ∀ i : Fin 8, (cooking.clc.table[i]).range.all fun r => decide (300 ≤ r.1 ∧ r.1 ≤ r.2 ∧ r.2 ≤ 2500) := by decide
    have := key i
    rw [h] at this
    simpa using this
  loop := by decide

theorem user_cooking (slot : Nat) (p : Program) (h : userProgram cooking slot = some p) : slot = 2 ∧ p = program := by
  have h8 : slot < 8 := by
    by_contra hc
    have : userProgram cooking slot = .none := by
      unfold userProgram
      rw [if_pos (by omega), Vector.getElem?_eq_none (by omega)]
      rfl
    rw [this] at h
    cases h
  have : slot = 0 ∨ slot = 1 ∨ slot = 2 ∨ slot = 3 ∨ slot = 4 ∨ slot = 5 ∨ slot = 6 ∨ slot = 7 := by omega
  rcases this with rfl | rfl | rfl | rfl | rfl | rfl | rfl | rfl
  all_goals first
    | (have h' : (.none : Option Program) = some p := h; cases h')
    | (have h' : some program = some p := h; cases h'; exact ⟨rfl, rfl⟩)

theorem pool_cooking (n : Nat) (st : Step) (h : cooking.pst.pool[n]? = some (some st)) :
    (n = 0 ∧ st = .climate roast) ∨ (n = 1 ∧ st = .confirm 9) := by
  have hp : cooking.pst.pool = ((Vector.replicate 96 .none).set 0 (some (.climate roast))).set 1 (some (.confirm 9)) := rfl
  rw [hp] at h
  simp only [Vector.getElem?_set, Vector.getElem?_replicate] at h
  split at h
  · rename_i h1; cases h; exact .inr ⟨h1.symm, rfl⟩
  · split at h
    · rename_i h1; cases h; exact .inl ⟨h1.symm, rfl⟩
    · split at h <;> cases h

theorem store_cooking : StoreLaw cooking where
  once := by decide
  referenced n := by
    have : allRecords cooking = [0, 1] := by decide
    rw [this]
    constructor
    · intro h
      have : n = 0 ∨ n = 1 := by simpa using h
      rcases this with rfl | rfl
      · exact ⟨.climate roast, rfl⟩
      · exact ⟨.confirm 9, rfl⟩
    · rintro ⟨st, h⟩
      rcases pool_cooking n st h with ⟨rfl, -⟩ | ⟨rfl, -⟩ <;> simp
  kinds n st h := by rcases pool_cooking n st h with ⟨-, rfl⟩ | ⟨-, rfl⟩ <;> rfl
  lengths slot p h := by obtain ⟨-, rfl⟩ := user_cooking slot p h; decide
  tags a b p q ha hb _ := by rw [(user_cooking a p ha).1, (user_cooking b q hb).1]
  tagged slot p h := by obtain ⟨-, rfl⟩ := user_cooking slot p h; decide
  ranges slot p h i v hv := by
    obtain ⟨-, rfl⟩ := user_cooking slot p h
    have key : ∀ i : Fin 8, (program.vars[i]).all fun v => decide (v.min ≤ v.value ∧ v.value ≤ v.max ∧ v.max ≤ 65535) := by decide
    have := key i
    rw [hv] at this
    simpa [Variable.ok] using this
  keepWarm slot p k h hk := by
    obtain ⟨-, rfl⟩ := user_cooking slot p h
    have h' : some 700 = some k := hk
    cases h'; decide
  part0 d h := by have h' : (.none : Option PendingDef) = some d := h; cases h'

theorem door_cooking : DoorLaw cooking where
  door l := by cases l <;> decide
  fan := by decide
  lamp := by decide
  fault l := by cases l <;> decide
  cool := by decide
  causes := by decide

theorem link_cooking : LinkLaw cooking := by constructor <;> decide

theorem mask_cooking : MaskLaw cooking where
  supply l := by cases l <;> decide
  health l := by cases l <;> decide

theorem range_cooking : RangeLaw cooking where
  demands l := by cases l <;> decide
  entry := by decide
  loops := by decide
  steam := by decide
  boiler := by
    refine ⟨by decide, by decide, ?_, ?_⟩ <;>
      · intro n h
        have h' : (.none : Option Nat) = some n := h
        cases h'
  run := by decide
  runs c := by cases c <;> decide

theorem run_cooking : RunLaw cooking := by constructor <;> decide

theorem lawful_cooking : Lawful cooking :=
  ⟨firing_cooking, solo_cooking, pause_cooking, boiler_cooking, scale_cooking, list_cooking, config_cooking, store_cooking, door_cooking,
   link_cooking, mask_cooking, range_cooking, run_cooking⟩
/-! ## Witnesses: states and operands that meet the hypotheses of the statements -/

theorem list_standby : ListLaw standby where
  own_class l := by cases l <;> decide
  once c hc l := by
    have : c = 0 ∨ c = 1 ∨ c = 2 ∨ c = 3 := by omega
    rcases this with rfl | rfl | rfl | rfl <;> cases l <;> decide
  placement := by decide

/-! The queue, the laws and the link -/

theorem witness_front : cooking.pending = .stepTick :: [] := rfl

theorem witness_laws : Lawful cooking ∧ ∃ t, step cooking = .next t := ⟨lawful_cooking, _, rfl⟩

theorem witness_requests_placement : requestLengthOk (.setPlacement (List.replicate 16 0)) = true := by decide

theorem witness_requests_rotation : requestLengthOk (.setRotation 2 0 (some [0, 1, 2, 3, 4])) = true := by decide

theorem witness_frames_request :
    (Instr.setLoop 40 6 8 4 5).wf = true ∧ rowRequest (.setLoop 40 6 8 4 5) = some (.setLoop 40 6 8 4 5)
      ∧ standby.lif.rx = .hunt := by decide

theorem witness_frames_longest : (List.replicate 48 (0 : Byte)).length ≤ 48 ∧ standby.lif.rx = .hunt := by decide

/-- The part in a receive state, `have` bytes of `want` taken. -/
def receiving (rx : Rx) (want : Nat) (bytes : List Byte) : State :=
  { standby with lif := { standby.lif with rx := rx, length := want, buffer := bytes, gap := true } }

theorem witness_byte_hunt_other : standby.lif.rx = .hunt ∧ (0xA6 : Byte) ≠ 0xA7 := by decide

theorem witness_byte_hunt_start : standby.lif.rx = .hunt ∧ (0xA7 : Byte) = 0xA7 := by decide

theorem witness_byte_length :
    (receiving .length 0 []).lif.rx = .length ∧ (1 ≤ (1 : Byte).toNat ∧ (1 : Byte).toNat ≤ 49)
      ∧ 1 ≤ (49 : Byte).toNat ∧ (49 : Byte).toNat ≤ 49 := by decide

theorem witness_byte_length_outside :
    (receiving .length 0 []).lif.rx = .length ∧ ((0 : Byte).toNat = 0 ∨ 49 < (0 : Byte).toNat)
      ∧ ((50 : Byte).toNat = 0 ∨ 49 < (50 : Byte).toNat) := by decide

theorem witness_byte_body :
    (receiving .body 3 [1]).lif.rx = .body ∧ (receiving .body 3 [1]).lif.buffer.length + 1 < 3 := by decide

theorem witness_byte_body_last :
    (receiving .body 2 [1]).lif.rx = .body ∧ 2 ≤ (receiving .body 2 [1]).lif.buffer.length + 1 := by decide

theorem witness_byte_check : (receiving .check 1 [1]).lif.rx = .check := by decide

theorem witness_byte_answering : (receiving .answering 1 [1]).lif.rx = .answering := by decide

theorem witness_turn :
    (receiving .answering 1 [1]).lif.rx = .answering ∧ rowRequest .pause = some .pause := by decide

theorem witness_gap : (receiving .body 3 [1]).lif.gap = true := by decide

/-- SET_LOOP at the ends of its ranges. -/
def loopRequest : Request := .setLoop 255 255 50 16 20

theorem witness_mode_refused :
    rowRequest (.setLoop 255 255 50 16 20) = some loopRequest ∧ requestLengthOk loopRequest = true
      ∧ cooking.lif.rx ≠ .answering ∧ ovenMode (heard loopRequest cooking) ∉ modesOf loopRequest := by decide

theorem witness_mode_passed :
    rowRequest (.setLoop 255 255 50 16 20) = some loopRequest ∧ requestLengthOk loopRequest = true
      ∧ standby.lif.rx ≠ .answering ∧ ovenMode (heard loopRequest standby) ∈ modesOf loopRequest := by decide

theorem witness_refusal :
    rowRequest (.setLoop 255 255 50 16 20) = some loopRequest ∧ cooking.lif.rx ≠ .answering
      ∧ result (after (.setLoop 255 255 50 16 20) cooking) = some .mode := by decide

theorem witness_wrong_check : (0 : Byte) ≠ checkByte 0x31 [] ∧ cooking.lif.rx ≠ .answering := by decide

theorem witness_unknown_code : (0x60 : Byte) ∉ knownCodes ∧ Hears standby := ⟨by decide, by decide, by decide⟩

theorem witness_silence : cooking.lif.silence = true ∧ PauseLaw cooking := ⟨by decide, pause_cooking⟩

theorem witness_silent_heard :
    (let s := { cooking with lif := { cooking.lif with silent := true, silence := false } }
     rowRequest .pause = some .pause ∧ s.lif.rx ≠ .answering ∧ s.lif.silent = true) := by decide

theorem witness_responses : ListLaw cooking ∧ StoreLaw cooking := ⟨list_cooking, store_cooking⟩

/-! Reads and notices -/

theorem hears_standby : Hears standby := ⟨by decide, by decide⟩

theorem hears_service : Hears service := ⟨by decide, by decide⟩

theorem hears_stored : Hears stored := ⟨by decide, by decide⟩

theorem hears_cooking : Hears cooking := ⟨by decide, by decide⟩

theorem witness_read_load : Hears standby ∧ (4 : Byte) = loadByte .boiler ∧ 4 < (5 : Byte).toNat :=
  ⟨hears_standby, by decide, by decide⟩

theorem witness_read_program : Hears standby ∧ (7 : Byte).toNat ≤ 7 ∧ 7 < (8 : Byte).toNat :=
  ⟨hears_standby, by decide, by decide⟩

theorem witness_read_step :
    Hears stored ∧ (2 : Byte).toNat ≤ 7 ∧ stepAt stored (2 : Byte).toNat (1 : Byte).toNat = some (.confirm 9) :=
  ⟨hears_stored, by decide, by decide⟩

theorem witness_read_step_missing :
    Hears stored ∧ (7 < (8 : Byte).toNat ∨ stepAt stored (8 : Byte).toNat (0 : Byte).toNat = .none)
      ∧ (7 < (2 : Byte).toNat ∨ stepAt stored (2 : Byte).toNat (2 : Byte).toNat = .none) :=
  ⟨hears_stored, by decide, by decide⟩

theorem witness_clear_notices :
    Hears noticed ∧ (0x3FFF : Word).toNat < 2 ^ 14 ∧ 2 ^ 14 ≤ (0x4000 : Word).toNat :=
  ⟨⟨by decide, by decide⟩, by decide, by decide⟩

/-! Configuration -/

theorem witness_set_load :
    Hears standby ∧ (ovenMode standby = .standby ∨ ovenMode standby = .service)
      ∧ (100 ≤ (100 : Word).toNat ∧ (3000 : Word).toNat ≤ 3000) ∧ (3 : Byte).toNat ≤ 3 ∧ ListLaw standby
      ∧ (load standby .ring).cls = (2 : Byte).toNat ∧ (load standby .ring).cls ≠ (3 : Byte).toNat :=
  ⟨hears_standby, by decide, by decide, by decide, list_standby, by decide, by decide⟩

/-- SET_SUPPLY at the lower ends of its ranges, SINGLE. -/
def lowSupply : RawSupply := ⟨0, 1000, 1000, 0, 0, 20⟩

/-- SET_SUPPLY at the upper ends of its ranges, DUAL. -/
def highSupply : RawSupply := ⟨1, 7400, 7400, 500, 500, 250⟩

theorem witness_set_supply_single :
    Hears standby ∧ (ovenMode standby = .standby ∨ ovenMode standby = .service)
      ∧ lowSupply.connection = connectionByte .single
      ∧ (1000 ≤ lowSupply.budgetA.toNat ∧ lowSupply.budgetA.toNat ≤ 7400 ∧ 1000 ≤ lowSupply.budgetB.toNat
        ∧ lowSupply.budgetB.toNat ≤ 7400 ∧ lowSupply.reserveA.toNat ≤ 500 ∧ lowSupply.reserveB.toNat ≤ 500
        ∧ 20 ≤ lowSupply.slotHc.toNat ∧ lowSupply.slotHc.toNat ≤ 250)
      ∧ standby.par.supply.connection ≠ .single :=
  ⟨hears_standby, by decide, by decide, by decide, by decide⟩

theorem witness_set_supply_dual :
    Hears service ∧ (ovenMode service = .standby ∨ ovenMode service = .service)
      ∧ highSupply.connection = connectionByte .dual
      ∧ (1000 ≤ highSupply.budgetA.toNat ∧ highSupply.budgetA.toNat ≤ 7400 ∧ 1000 ≤ highSupply.budgetB.toNat
        ∧ highSupply.budgetB.toNat ≤ 7400 ∧ highSupply.reserveA.toNat ≤ 500 ∧ highSupply.reserveB.toNat ≤ 500
        ∧ 20 ≤ highSupply.slotHc.toNat ∧ highSupply.slotHc.toNat ≤ 250)
      ∧ service.par.supply.connection = .dual :=
  ⟨hears_service, by decide, by decide, by decide, by decide⟩

theorem witness_set_supply_dual_from_single :
    (let s := { service with par := { service.par with supply := { service.par.supply with connection := .single } } }
     Hears s ∧ ovenMode s = .service ∧ s.par.supply.connection ≠ .dual) := ⟨⟨by decide, by decide⟩, by decide, by decide⟩

/-- The slots in reverse. -/
def reversed : List Byte := [15, 14, 13, 12, 11, 10, 9, 8, 7, 6, 5, 4, 3, 2, 1, 0]

theorem witness_set_placement :
    Hears standby ∧ (ovenMode standby = .standby ∨ ovenMode standby = .service)
      ∧ (reversed.map BitVec.toNat).Perm (List.range 16) := ⟨hears_standby, by decide, by decide⟩

theorem witness_set_rotation :
    Hears standby ∧ (ovenMode standby = .standby ∨ ovenMode standby = .service) ∧ (3 : Byte).toNat ≤ 3 ∧ ListLaw standby
      ∧ List.Perm [LoadId.grill, .top, .ring, .bottom] (standby.par.lists.get (2 : Byte).toNat) :=
  ⟨hears_standby, by decide, by decide, list_standby, by decide⟩

theorem witness_rotate_lowest :
    Hears cooking ∧ ovenMode cooking ≠ .fault ∧ ListLaw cooking
      ∧ cooking.par.lists.get (load cooking .ring).cls = [.top, .bottom] ++ .ring :: [.grill]
      ∧ 3 ≤ 3 ∧ 3 ≠ (load cooking .ring).cls :=
  ⟨hears_cooking, by decide, list_cooking, by decide, by decide, by decide⟩

/-- SET_MODE_ENTRY at the ends of its ranges. -/
def widestEntry : RawEntry := ⟨7, 100, 100, 100, 100, 100, 2, 1, 1, 300, 2500⟩

theorem witness_set_mode_entry :
    Hears standby ∧ (ovenMode standby = .standby ∨ ovenMode standby = .service) ∧ widestEntry.entry.toNat ≤ 7
      ∧ widestEntry.fan = fanByte .high ∧ widestEntry.tempLoop = flagByte true ∧ widestEntry.humLoop = flagByte true
      ∧ widestEntry.top.toNat ≤ 100 ∧ widestEntry.bottom.toNat ≤ 100 ∧ widestEntry.ring.toNat ≤ 100
      ∧ widestEntry.grill.toNat ≤ 100 ∧ widestEntry.boiler.toNat ≤ 100
      ∧ 300 ≤ widestEntry.min.toInt ∧ widestEntry.min.toInt ≤ widestEntry.max.toInt ∧ widestEntry.max.toInt ≤ 2500 :=
  ⟨hears_standby, by decide, by decide, by decide, by decide, by decide, by decide, by decide, by decide, by decide,
   by decide, by decide, by decide, by decide⟩

theorem witness_set_loop :
    Hears standby ∧ (ovenMode standby = .standby ∨ ovenMode standby = .service) ∧ (50 : Byte).toNat ≤ 50
      ∧ 2 ≤ (2 : Byte).toNat ∧ (16 : Byte).toNat ≤ 16 ∧ (20 : Byte).toNat ≤ 20 :=
  ⟨hears_standby, by decide, by decide, by decide, by decide, by decide⟩

/-- SET_WATER with the smallest fill and thresholds 1, 2 and 60000. -/
def widestWater : RawWater := ⟨1200, 50, 1, 2, 60000⟩

theorem witness_set_water :
    Hears standby ∧ (ovenMode standby = .standby ∨ ovenMode standby = .service) ∧ 50 ≤ widestWater.fillMl.toNat
      ∧ widestWater.fillMl.toNat ≤ 400 ∧ 1 ≤ widestWater.advise.toNat
      ∧ widestWater.advise.toNat < widestWater.derate.toNat ∧ widestWater.derate.toNat < widestWater.lock.toNat
      ∧ widestWater.lock.toNat ≤ 60000 ∧ standby.sgc.request = .none :=
  ⟨hears_standby, by decide, by decide, by decide, by decide, by decide, by decide, by decide, by decide⟩

theorem witness_set_scale : Hears standby ∧ ovenMode standby = .standby ∧ standby.sgc.request = .none :=
  ⟨hears_standby, by decide, by decide⟩

theorem witness_refused_load :
    Hears standby ∧ ovenMode standby = .standby ∧ 4 < (5 : Byte).toNat
      ∧ (4 : Byte).toNat ≤ 4 ∧ (99 : Word).toNat < 100 ∧ 3000 < (3001 : Word).toNat ∧ 3 < (4 : Byte).toNat
      ∧ 1 < (2 : Byte).toNat :=
  ⟨hears_standby, by decide, by decide, by decide, by decide, by decide, by decide, by decide⟩

theorem witness_refused_supply :
    Hears standby ∧ ovenMode standby = .standby ∧ 1 < (2 : Byte).toNat ∧ (999 : Word).toNat < 1000 ∧ 7400 < (7401 : Word).toNat ∧ 500 < (501 : Word).toNat
      ∧ (19 : Byte).toNat < 20 ∧ 250 < (251 : Byte).toNat := ⟨hears_standby, by decide, by decide⟩

theorem witness_refused_placement :
    Hears standby ∧ ovenMode standby = .standby ∧ (List.replicate 16 (16 : Byte)).length = 16 ∧ (∃ b, b ∈ List.replicate 16 (16 : Byte) ∧ 15 < b.toNat)
      ∧ (∀ b, b ∈ List.replicate 16 (15 : Byte) → b.toNat ≤ 15) ∧ ¬ (List.replicate 16 (15 : Byte)).Nodup := by
  refine ⟨hears_standby, by decide, by decide, ⟨16, by decide, by decide⟩, by decide, by decide⟩

theorem witness_refused_rotation :
    Hears standby ∧ ovenMode standby = .standby ∧ 3 < (4 : Byte).toNat ∧ (3 : Byte).toNat ≤ 3 ∧ 1 < (2 : Byte).toNat
      ∧ (∃ l, l ∈ [LoadId.boiler] ∧ (load standby l).cls ≠ (3 : Byte).toNat)
      ∧ [LoadId.top].length ≠ (standby.par.lists.get (2 : Byte).toNat).length := by
  refine ⟨hears_standby, by decide, by decide, by decide, by decide, ⟨.boiler, by decide, by decide⟩, by decide⟩

theorem witness_duplicate_rotation :
    Hears standby ∧ ovenMode standby = .standby ∧ (2 : Byte).toNat ≤ 3 ∧ (1 : Byte).toNat ≤ 1
      ∧ (∀ l, l ∈ [LoadId.top, .top, .ring, .grill] → (load standby l).cls = (2 : Byte).toNat)
      ∧ [LoadId.top, .top, .ring, .grill].length = (standby.par.lists.get (2 : Byte).toNat).length
      ∧ ¬ [LoadId.top, .top, .ring, .grill].Nodup := ⟨hears_standby, by decide, by decide⟩

theorem witness_refused_entry :
    Hears standby ∧ ovenMode standby = .standby ∧ 7 < (8 : Byte).toNat ∧ (7 : Byte).toNat ≤ 7 ∧ 100 < (101 : Byte).toNat ∧ 2 < (3 : Byte).toNat
      ∧ (299 : Word).toInt < 300 ∧ 2500 < (2501 : Word).toInt ∧ (400 : Word).toInt < (401 : Word).toInt := ⟨hears_standby, by decide, by decide⟩

theorem witness_refused_loop :
    Hears standby ∧ ovenMode standby = .standby ∧ 50 < (51 : Byte).toNat ∧ (1 : Byte).toNat < 2 ∧ 16 < (17 : Byte).toNat ∧ 20 < (21 : Byte).toNat := ⟨hears_standby, by decide, by decide⟩

theorem witness_refused_water :
    Hears standby ∧ ovenMode standby = .standby ∧ (49 : Word).toNat < 50 ∧ 400 < (401 : Word).toNat ∧ (0 : Word).toNat = 0 ∧ (5 : Word).toNat ≤ (5 : Word).toNat
      ∧ 60000 < (60001 : Word).toNat := ⟨hears_standby, by decide, by decide⟩

/-! Programs -/

theorem witness_define_part0 :
    Hears standby ∧ ovenMode standby ≠ .service ∧ 2 ≤ (2 : Byte).toNat ∧ (7 : Byte).toNat ≤ 7 ∧ 1 ≤ (1 : Word).toNat
      ∧ keepWarmOf 900 = some (some 900) ∧ keepWarmOf 0 = some .none
      ∧ variablesOf noVars = some [.none, .none, .none, .none] :=
  ⟨hears_standby, by decide, by decide, by decide, by decide, by decide, by decide, by decide⟩

/-- The part with part 0 of a definition of slot 7. -/
def half : State :=
  { standby with lif := { standby.lif with
    pendingDef := some { slot := 7, tag := 8, keepWarm := .none, vars := [.none, .none, .none, .none] } } }

theorem empty_half (k : Nat) : userProgram half k = .none := by
  unfold userProgram
  split
  · by_cases h : k - 2 < 6
    · have : k - 2 = 0 ∨ k - 2 = 1 ∨ k - 2 = 2 ∨ k - 2 = 3 ∨ k - 2 = 4 ∨ k - 2 = 5 := by omega
      rcases this with h | h | h | h | h | h <;> rw [h] <;> decide
    · rw [Vector.getElem?_eq_none (by omega)]; rfl
  · rfl

theorem witness_define_part1 :
    Hears half ∧ ovenMode half ≠ .service ∧ 2 ≤ (7 : Byte).toNat ∧ (7 : Byte).toNat ≤ 7
      ∧ (∃ d, half.lif.pendingDef = some d ∧ d.slot = (7 : Byte).toNat)
      ∧ variablesOf noVars = some [.none, .none, .none, .none]
      ∧ (∀ k p, k ≠ 7 → userProgram half k = some p → p.tag ≠ 8) ∧ isRunningSlot half 7 = false
      ∧ ∀ p st i, stepAt half 7 p = some st → Step.names i st = true →
        (eightVars [.none, .none, .none, .none] [.none, .none, .none, .none])[i].isSome = true := by
  refine ⟨⟨by decide, by decide⟩, by decide, by decide, by decide, ⟨_, rfl, rfl⟩, by decide, ?_, by decide, ?_⟩
  · intro k p _ h
    rw [empty_half] at h
    cases h
  · intro p st i h
    simp [stepAt, empty_half] at h

theorem witness_add_running :
    Hears cooking ∧ ovenMode cooking ≠ .service ∧ userProgram cooking (2 : Byte).toNat = some program
      ∧ checkStep cooking (2 : Byte).toNat rawConfirm = .ok (.confirm 5) ∧ program.steps.length < 20
      ∧ lowestFree cooking = some 2
      ∧ (isRunningSlot cooking (2 : Byte).toNat = true → hasCurrent cooking = true)
      ∧ (2 : Byte).toNat ≤ program.steps.length
      ∧ positionInUse cooking (2 : Byte).toNat (1 : Byte).toNat = false :=
  ⟨hears_cooking, by decide, by decide, by decide, by decide, by decide, by decide, by decide, by decide⟩

theorem witness_add_stored :
    Hears stored ∧ ovenMode stored ≠ .service ∧ userProgram stored (2 : Byte).toNat = some program
      ∧ checkStep stored (2 : Byte).toNat rawConfirm = .ok (.confirm 5) ∧ lowestFree stored = some 2
      ∧ isRunningSlot stored (2 : Byte).toNat = false
      ∧ positionInUse stored (2 : Byte).toNat (0 : Byte).toNat = false :=
  ⟨hears_stored, by decide, by decide, by decide, by decide, by decide, by decide⟩

theorem witness_replace :
    Hears cooking ∧ ovenMode cooking ≠ .service ∧ userProgram cooking (2 : Byte).toNat = some program
      ∧ program.steps[(1 : Byte).toNat]? = some 1 ∧ 1 < 96
      ∧ checkStep cooking (2 : Byte).toNat rawConfirm = .ok (.confirm 5)
      ∧ positionInUse cooking (2 : Byte).toNat (1 : Byte).toNat = false :=
  ⟨hears_cooking, by decide, by decide, by decide, by decide, by decide, by decide⟩

theorem witness_retire :
    Hears stored ∧ ovenMode stored ≠ .service ∧ userProgram stored (2 : Byte).toNat = some program
      ∧ isRunningSlot stored (2 : Byte).toNat = false := ⟨hears_stored, by decide, by decide, by decide⟩

/-- The roast with its temperature in variable 0. -/
def named : State :=
  { cooking with pst := { cooking.pst with
    pool := cooking.pst.pool.set 0 (some (.climate { roast with temp := some { plain 1700 with base := some 0 } })) } }

theorem witness_variable :
    Hears named ∧ ovenMode named ≠ .service ∧ userProgram named (2 : Byte).toNat = some program
      ∧ (0 : Byte).toNat = (0 : Fin 8).val ∧ program.vars[(0 : Fin 8)] = some oneVar ∧ oneVar.ok
      ∧ isRunningSlot named (2 : Byte).toNat = true
      ∧ (∃ c e, currentStep named = some (.climate c) ∧ Step.names 0 (.climate c) = true ∧ c.temp = some e
        ∧ e.names 0 = true) :=
  ⟨⟨by decide, by decide⟩, by decide, by decide, by decide, by decide, ⟨by decide, by decide, by decide⟩, by decide,
   _, _, rfl, rfl, rfl, rfl⟩

theorem witness_variable_stored :
    Hears stored ∧ userProgram stored (2 : Byte).toNat = some program ∧ isRunningSlot stored (2 : Byte).toNat = false
      ∧ ∀ st, currentStep stored = some st → Step.names 0 st = false := by
  refine ⟨hears_stored, by decide, by decide, ?_⟩
  intro st h
  have h' : (.none : Option Step) = some st := h
  cases h'

/-! Run control -/

theorem witness_start :
    Hears stored ∧ ovenMode stored = .standby ∧ userProgram stored (2 : Byte).toNat = some program ∧ program.steps ≠ []
      ∧ stepAt stored (2 : Byte).toNat 0 = some (.climate roast) ∧ isUserStep (.climate roast) = true
      ∧ stored.sca.rinseDue = false ∧ stored.sca.stage ≠ .lock :=
  ⟨hears_stored, by decide, by decide, by decide, by decide, by decide, by decide, by decide⟩

theorem witness_start_descale :
    Hears standby ∧ ovenMode standby = .standby ∧ standby.sgc.state = .empty ∧ standby.dlu.door ≠ .opened :=
  ⟨hears_standby, by decide, by decide, by decide⟩

theorem witness_start_descale_full :
    (let s := boilerIn .standing standby
     Hears s ∧ ovenMode s = .standby ∧ s.sgc.state ≠ .empty ∧ s.sgc.state ≠ .fault) :=
  ⟨⟨by decide, by decide⟩, by decide, by decide, by decide⟩

theorem witness_pause :
    Hears cooking ∧ ovenMode cooking = .running ∧ PauseLaw cooking ∧ FiringLaw cooking ∧ cooking.run.state = .active :=
  ⟨hears_cooking, by decide, pause_cooking, firing_cooking, by decide⟩

/-- A run in ENDING, its boiler draining. -/
def ending : State :=
  { cooking with
    run := { cooking.run with state := .ending, endingCause := some .aborted, latched := {} }
    clc := { cooking.clc with climate := .absent, loopTimer := .none }
    sgc := { cooking.sgc with state := .draining, request := .drain, drainCount := some 39 } }

theorem pause_ending : PauseLaw ending where
  masks l := by cases l <;> decide
  taken r := by cases r <;> decide

theorem witness_pause_refused :
    Hears ending ∧ ovenMode ending = .running ∧ PauseLaw ending ∧ FiringLaw ending ∧ ending.run.state = .ending :=
  ⟨⟨by decide, by decide⟩, by decide, pause_ending, firingLaw_congr (s := cooking) rfl rfl firing_cooking, by decide⟩

/-- The roast paused by the host and by an empty tank. -/
def paused : State :=
  let s := addPause .tank (addPause .host cooking)
  { s with sgc := { s.sgc with tankEmpty := true } }

theorem pause_paused : PauseLaw paused where
  masks l := by cases l <;> decide
  taken r := by cases r <;> decide

theorem witness_resume :
    Hears paused ∧ ovenMode paused = .running ∧ PauseLaw paused ∧ paused.run.pause.host = true
      ∧ paused.run.pause.tank = true ∧ ∀ st, currentStep paused = some st → isUserStep st = true := by
  refine ⟨⟨by decide, by decide⟩, by decide, pause_paused, by decide, by decide, ?_⟩
  intro st h
  have h' : some (Step.climate roast) = some st := h
  cases h'
  rfl

theorem witness_resume_refused :
    Hears cooking ∧ ovenMode cooking = .running ∧ PauseLaw cooking ∧ cooking.run.pause.host = false
      ∧ cooking.run.pause.tank = false := ⟨hears_cooking, by decide, pause_cooking, by decide, by decide⟩

theorem run_waiting : RunLaw waiting := by constructor <;> decide

theorem last_waiting : NextIsUserStep waiting := by
  intro st h
  have h' : (.none : Option Step) = some st := h
  cases h'

theorem witness_confirm :
    Hears waiting ∧ ovenMode waiting = .running ∧ RunLaw waiting ∧ NextIsUserStep waiting
      ∧ waiting.run.state = .awaitConfirm ∧ waiting.run.awaiting = some .step
      ∧ currentStep waiting = some (.confirm 9) ∧ isUserStep (.confirm 9) = true :=
  ⟨⟨by decide, by decide⟩, by decide, run_waiting, last_waiting, by decide, by decide, by decide, by decide⟩

/-- The roast whose end waits for the host. -/
def waitingNext : State := { cooking with run := { cooking.run with state := .awaitConfirm, awaiting := some .next } }

theorem run_waitingNext : RunLaw waitingNext := by constructor <;> decide

theorem next_waitingNext : NextIsUserStep waitingNext := by
  intro st h
  have h' : some (Step.confirm 9) = some st := h
  cases h'
  rfl

theorem witness_confirm_next :
    Hears waitingNext ∧ ovenMode waitingNext = .running ∧ RunLaw waitingNext ∧ NextIsUserStep waitingNext
      ∧ waitingNext.run.state = .awaitConfirm ∧ waitingNext.run.awaiting = some .next :=
  ⟨⟨by decide, by decide⟩, by decide, run_waitingNext, next_waitingNext, by decide, by decide⟩

theorem next_cooking : NextIsUserStep cooking := by
  intro st h
  have h' : some (Step.confirm 9) = some st := h
  cases h'
  rfl

theorem witness_confirm_refused :
    Hears cooking ∧ ovenMode cooking = .running ∧ RunLaw cooking ∧ NextIsUserStep cooking
      ∧ cooking.run.state ≠ .awaitConfirm := ⟨hears_cooking, by decide, run_cooking, next_cooking, by decide⟩

theorem witness_skip :
    Hears cooking ∧ ovenMode cooking = .running ∧ RunLaw cooking ∧ NextIsUserStep cooking ∧ runsSystem cooking = false
      ∧ currentStep cooking = some (.climate roast) ∧ isUserStep (.climate roast) = true
      ∧ cooking.run.awaiting ≠ some .next :=
  ⟨hears_cooking, by decide, run_cooking, next_cooking, by decide, by decide, by decide, by decide⟩

/-- RINSE waiting at its first step. -/
def rinsing : State :=
  { cooking with run := { cooking.run with
    slot := some 1, state := .awaitConfirm, awaiting := some .step, latched := {} } }

theorem witness_skip_protected :
    Hears rinsing ∧ ovenMode rinsing = .running ∧ RunLaw rinsing ∧ runsSystem rinsing = true :=
  ⟨⟨by decide, by decide⟩, by decide, by constructor <;> decide, by decide⟩

theorem run_keptWarm : RunLaw keptWarm := by constructor <;> decide

theorem witness_skip_refused :
    Hears keptWarm ∧ ovenMode keptWarm = .running ∧ RunLaw keptWarm ∧ runsSystem keptWarm = false
      ∧ keptWarm.run.state = .holding := ⟨⟨by decide, by decide⟩, by decide, run_keptWarm, by decide, by decide⟩

theorem witness_adjust_temp :
    Hears cooking ∧ ovenMode cooking = .running ∧ RunLaw cooking ∧ runsSystem cooking = false ∧ hasCurrent cooking = true
      ∧ cooking.run.latched.temp = some 1800 ∧ tempRange cooking.clc.climate.entry = (300, 2500)
      ∧ cooking.clc.climate.kind ≠ .none :=
  ⟨hears_cooking, by decide, run_cooking, by decide, by decide, by decide, by decide, by decide⟩

theorem witness_adjust_humidity :
    (let s := { cooking with run := { cooking.run with latched := { cooking.run.latched with humidity := some 40 } } }
     Hears s ∧ ovenMode s = .running ∧ RunLaw s ∧ runsSystem s = false ∧ hasCurrent s = true
      ∧ s.run.latched.humidity = some 40) :=
  ⟨⟨by decide, by decide⟩, by decide, by constructor <;> decide, by decide, by decide, by decide⟩

theorem witness_adjust_duration :
    cooking.run.latched.duration = some 600 ∧ cooking.run.awaiting ≠ some .next := by decide

theorem witness_abort :
    PauseLaw cooking ∧ Hears cooking ∧ ovenMode cooking = .running ∧ cooking.run.state = .active
      ∧ cooking.sgc.state = .empty ∧ cooking.sgc.request = .none ∧ cookingWant cooking = false :=
  ⟨pause_cooking, hears_cooking, by decide, by decide, by decide, by decide, by decide⟩

theorem witness_abort_full :
    (let s := boilerIn .standing cooking
     PauseLaw s ∧ Hears s ∧ ovenMode s = .running ∧ s.run.state = .active ∧ s.sgc.state ≠ .empty ∧ s.sgc.state ≠ .fault) :=
  ⟨pauseLaw_congr (s := cooking) rfl rfl pause_cooking, ⟨by decide, by decide⟩, by decide, by decide, by decide, by decide⟩

theorem pause_keptWarm : PauseLaw keptWarm where
  masks l := by cases l <;> decide
  taken r := by cases r <;> decide

theorem witness_end_hold :
    PauseLaw keptWarm ∧ Hears keptWarm ∧ ovenMode keptWarm = .running ∧ keptWarm.run.state = .holding
      ∧ 3599 ≤ keptWarm.run.holdS :=
  ⟨pause_keptWarm, ⟨by decide, by decide⟩, by decide, by decide, by decide⟩

theorem witness_abort_refused :
    PauseLaw ending ∧ Hears ending ∧ ovenMode ending = .running ∧ ending.run.state = .ending
      ∧ ending.run.state ≠ .holding := ⟨pause_ending, ⟨by decide, by decide⟩, by decide, by decide, by decide⟩

/-! Loads, faults, service, INIT -/

theorem witness_verify :
    Hears cooking ∧ ovenMode cooking ≠ .fault ∧ (load cooking .ring).mask.health = false :=
  ⟨hears_cooking, by decide, by decide⟩

theorem witness_verify_refused :
    (let s := { faulty with dlu := standby.dlu }
     Hears s ∧ ovenMode s ≠ .fault ∧ (load s .ring).mask.health = true) :=
  ⟨⟨by decide, by decide⟩, by decide, by decide⟩

theorem witness_clear_load :
    Hears faulty ∧ ((load faulty .ring).health = .opened ∨ (load faulty .ring).health = .high)
      ∧ (load faulty .top).health ≠ .opened ∧ (load faulty .top).health ≠ .high :=
  ⟨⟨by decide, by decide⟩, by decide, by decide, by decide⟩

theorem witness_clear_oven :
    Hears faulty ∧ faulty.dlu.latch = true ∧ faulty.msu.cavity.fault = false ∧ faulty.msu.cavity.filtered = some 3000
      ∧ faulty.svc.service = false := ⟨⟨by decide, by decide⟩, by decide, by decide, by decide, by decide⟩

theorem witness_clear_oven_refused :
    (let s := { faulty with msu := { faulty.msu with cavity := at_ 3001 } }
     Hears s ∧ ∃ T, s.msu.cavity.filtered = some T ∧ 3000 < T) := ⟨⟨by decide, by decide⟩, 3001, by decide, by decide⟩

theorem witness_clear_boiler :
    Hears faulty ∧ faulty.sgc.state = .fault ∧ faulty.msu.boiler.fault = false ∧ faulty.msu.boiler.filtered = some 999 :=
  ⟨⟨by decide, by decide⟩, by decide, by decide, by decide⟩

theorem witness_clear_boiler_refused :
    (let s := { faulty with msu := { faulty.msu with boiler := at_ 1000 } }
     Hears s ∧ ∃ T, s.msu.boiler.filtered = some T ∧ 1000 ≤ T) := ⟨⟨by decide, by decide⟩, 1000, by decide, by decide⟩

theorem witness_service : Hears service ∧ ovenMode service = .service ∧ service.svc.pattern = .none :=
  ⟨hears_service, by decide, by decide⟩

theorem witness_service_pattern :
    (let s := { service with svc := { service.svc with pattern := .allOff } }
     Hears s ∧ ovenMode s = .service ∧ s.svc.pattern ≠ .none ∧ (4 : Byte).toNat ≤ 4) :=
  ⟨⟨by decide, by decide⟩, by decide, by decide, by decide⟩

theorem witness_init : Hears cooking ∧ PauseLaw cooking ∧ cooking.run.state ≠ .idle ∧ cooking.svc.service = false :=
  ⟨hears_cooking, pause_cooking, by decide, by decide⟩

theorem witness_init_service : Hears service ∧ PauseLaw service ∧ service.run.state = .idle ∧ service.svc.service = true :=
  ⟨hears_service, ⟨fun l => by cases l <;> decide, fun r => by cases r <;> decide⟩, by decide, by decide⟩

/-! Samples -/

/-- A cavity channel in a fault state. -/
def cavityAt (fault : Bool) (bad good : Nat) : Analog :=
  { raw := 0, filtered := if fault then .none else some 1800, fault := fault, badRun := bad, goodRun := good }

/-- The roast with a cavity record. -/
def roastAt (a : Analog) : State := { cooking with msu := { cooking.msu with cavity := a } }

/-- The record that ANALOG_SAMPLE of the cavity finds. -/
def found (fault : Bool) (bad good : Nat) : Analog := channel (inputChannel .cavity) (roastAt (cavityAt fault bad good)).msu

theorem witness_sample_valid :
    -200 ≤ (-200 : Int) ∧ (-200 : Int) ≤ 4000 ∧ (4000 : Int) ≤ 4000 ∧ (found false 0 0).fault = false
      ∧ (found false 0 0).filtered = some 1800 ∧ (channel (inputChannel .cavity) standby.msu).filtered = .none := by decide

theorem witness_sample_clearing :
    (-200 ≤ (4000 : Int) ∧ (4000 : Int) ≤ 4000) ∧ (found true 0 1).fault = true ∧ (found true 0 1).goodRun < 2
      ∧ (found true 0 2).fault = true ∧ 2 ≤ (found true 0 2).goodRun := by decide

theorem witness_sample_invalid :
    ((-201 : Int) < -200 ∨ 4000 < (-201 : Int)) ∧ ((4001 : Int) < -200 ∨ 4000 < (4001 : Int))
      ∧ (found false 1 0).fault = false ∧ (found false 1 0).badRun < 2
      ∧ (found false 2 0).fault = false ∧ 2 ≤ (found false 2 0).badRun ∧ (found true 3 0).fault = true := by decide

theorem witness_sample_kept :
    (let a := channel (inputChannel .cavity) (after (.analogSample .cavity 4001) (roastAt (cavityAt false 1 0))).msu
     a.fault = (found false 1 0).fault ∨ a.fault = false) := by decide

theorem climate_roastAt (a : Analog) (c : ClimateStep) (h : currentStep (roastAt a) = some (.climate c)) :
    c.endCond ≠ .reached := by
  have h' : some (Step.climate roast) = some (.climate c) := h
  cases h'
  decide

theorem laws_roastAt (a : Analog) : FiringLaw (roastAt a) ∧ MaskLaw (roastAt a) ∧ DoorLaw (roastAt a) :=
  ⟨firingLaw_congr (s := cooking) rfl rfl firing_cooking, maskLaw_congr (s := cooking) rfl rfl mask_cooking, doorLaw_congr (s := cooking) rfl rfl rfl rfl door_cooking⟩

theorem witness_limit :
    (let s := roastAt (at_ 3000)
     s.dlu.latch = false ∧ (FiringLaw s ∧ MaskLaw s ∧ DoorLaw s)
      ∧ (∀ c, currentStep s = some (.climate c) → c.endCond ≠ .reached)
      ∧ (channel .cavity (sampleChannel .cavity 3004 s).1.msu).filtered = some 3001 ∧ 3000 < (3001 : Int)
      ∧ s.msu.cavity.fault = false ∧ validRaw .cavity 3004 = true ∧ s.run.state ≠ .idle ∧ s.svc.service = false) :=
  ⟨by decide, laws_roastAt _, climate_roastAt _, by decide, by decide, by decide, by decide, by decide, by decide⟩

theorem witness_sensor_cause :
    (let s := roastAt (cavityAt false 2 0)
     s.dlu.latch = false ∧ (FiringLaw s ∧ MaskLaw s ∧ DoorLaw s)
      ∧ (∀ c, currentStep s = some (.climate c) → c.endCond ≠ .reached)
      ∧ s.msu.cavity.fault = false ∧ 2 ≤ s.msu.cavity.badRun ∧ validRaw .cavity 4001 = false) :=
  ⟨by decide, laws_roastAt _, climate_roastAt _, by decide, by decide, by decide⟩

/-- The part with a probe record. -/
def probed (p : Digital Presence) : State := { standby with msu := { standby.msu with probeSeen := true, probe := p } }

theorem witness_probe_first : standby.msu.probeSeen = false := by decide

theorem witness_probe :
    (let s := probed { reported := .present, changeRun := 1 }
     s.msu.probeSeen = true ∧ Presence.present = s.msu.probe.reported ∧ Presence.absent ≠ s.msu.probe.reported
      ∧ s.msu.probe.changeRun < 2) := by decide

theorem witness_probe_change :
    (let s := probed { reported := .present, changeRun := 2 }
     s.msu.probeSeen = true ∧ Presence.absent ≠ s.msu.probe.reported ∧ 2 ≤ s.msu.probe.changeRun
      ∧ (after (.probeSample .absent 0) s).msu.probe.reported = .absent ∧ s.msu.probe.reported = .present) := by decide

theorem witness_probe_present :
    (let s := probed { reported := .present, changeRun := 0 }
     (after (.probeSample .present 250) s).msu.probe.reported = .present) := by decide

theorem witness_probe_absent :
    (let s := probed { reported := .absent, changeRun := 0 }
     (after (.probeSample .absent 0) s).msu.probe.reported = .absent ∧ s.msu.probe.reported = .absent
      ∧ s.msu.probeSeen = true) := by decide

/-- A CORE step without a cap, the probe about to be reported removed. -/
def coring : State :=
  { cooking with
    pst := { cooking.pst with
      pool := cooking.pst.pool.set 0 (some (.climate
        { roast with endCond := .core, duration := .none, core := some (plain 700) })) }
    run := { cooking.run with latched := { temp := some 1800, core := some 700 } }
    msu := { cooking.msu with probeSeen := true, probe := { reported := .present, changeRun := 2 } } }

theorem witness_probe_pauses :
    (∃ c, currentStep coring = some (.climate c) ∧ c.endCond = .core) ∧ coring.run.latched.duration = .none
      ∧ coring.msu.probe.reported = .present ∧ coring.msu.probeSeen = true
      ∧ (after (.probeSample .absent 0) coring).msu.probe.reported = .absent := by
  refine ⟨⟨_, rfl, rfl⟩, ?_⟩
  decide

theorem witness_probe_fault :
    (let s := { probed { reported := .present, changeRun := 0 } with msu :=
       { (probed { reported := .present, changeRun := 0 }).msu with core := cavityAt false 2 0 } }
     let t := after (.probeSample .present 2000) s
     t.msu.probe.reported = .present ∧ t.msu.core.fault = true ∧ s.msu.core.fault = false) := by decide

/-- The part with its electrode records. -/
def wired (low high : Digital Level) : State :=
  { standby with msu := { standby.msu with electrodesSeen := true, low := low, high := high } }

theorem witness_electrodes_first :
    standby.msu.electrodesSeen = false ∧ (after (.electrodeSample .dry .wet) standby).msu.low.reported = .wet
      ∧ (after (.electrodeSample .dry .dry) standby).msu.low.reported = .dry := by decide

theorem witness_electrodes :
    (let s := wired { reported := .dry, changeRun := 1 } { reported := .dry, changeRun := 2 }
     s.msu.electrodesSeen = true ∧ ¬ (Level.wet = .wet ∧ Level.wet = .dry) ∧ Level.wet ≠ s.msu.low.reported
      ∧ s.msu.low.changeRun < 2 ∧ Level.wet ≠ s.msu.high.reported ∧ 2 ≤ s.msu.high.changeRun) := by decide

theorem witness_electrodes_rise :
    (let s := wired { reported := .dry, changeRun := 2 } { reported := .dry, changeRun := 1 }
     s.msu.electrodesSeen = true ∧ ¬ (Level.dry = .wet ∧ Level.wet = .dry) ∧ s.msu.low.reported = .dry
      ∧ 2 ≤ s.msu.low.changeRun ∧ s.sgc.state = .empty ∧ s.msu.high.changeRun < 2
      ∧ Level.dry = s.msu.high.reported) := by decide

theorem boiler_steaming : BoilerLaw steaming := by constructor <;> first | decide | (intro h; exact absurd h (by decide))

theorem scale_steaming : ScaleLaw steaming := by constructor <;> decide

theorem witness_evaporation :
    BoilerLaw steaming ∧ ScaleLaw steaming ∧ steaming.msu.electrodesSeen = true ∧ steaming.msu.low.reported = .wet
      ∧ 2 ≤ steaming.msu.low.changeRun ∧ (steaming.sgc.state = .ready ∨ steaming.sgc.state = .steaming) :=
  ⟨boiler_steaming, scale_steaming, by decide, by decide, by decide, by decide⟩

/-! The mains -/

/-- A completed half-cycle. -/
def lastHalf : HalfCycle := { volts := 2300, ampsA := 9000, ampsB := some 4000 }

/-- The part after a half-cycle that no channel has sampled. -/
def fresh : State :=
  { standby with msu := { standby.msu with latest := some lastHalf, freshV := true, freshA := true, freshB := true } }

theorem witness_mains :
    fresh.msu.latest = some lastHalf ∧ fresh.msu.freshV = true ∧ fresh.msu.freshA = true ∧ fresh.msu.freshB = true
      ∧ fresh.par.supply.connection = .dual ∧ lastHalf.ampsB = some 4000 := by decide

theorem witness_mains_skipped : standby.msu.latest = .none := by decide

theorem witness_cross_short :
    (slotEnding 0).msu.zcSeen = true ∧ ({ crossing with intervalUs := 5999 } : Crossing).intervalUs < 6000 := by decide

theorem witness_cross_inside :
    (let s := { cooking with msu := { cooking.msu with zcSeen := true, halfOpen := true } }
     let z : Crossing := { crossing with intervalUs := 6000 }
     (s.msu.zcSeen = false ∨ 6000 ≤ z.intervalUs) ∧ s.par.frame.state = .firing
      ∧ s.par.frame.half < s.par.frame.inForce.slotHc ∧ s.msu.halfOpen = true ∧ z.intervalUs ≤ 40000
      ∧ s.par.frame.half ≠ 4) := by decide

theorem witness_cross_gap :
    cooking.msu.halfOpen = false ∧ 40000 < ({ crossing with intervalUs := 40001 } : Crossing).intervalUs := by decide

theorem witness_cross_baseline :
    (let s := { cooking with par := { cooking.par with frame := { cooking.par.frame with half := 4 } } }
     s.par.frame.state = .firing ∧ s.par.frame.half < s.par.frame.inForce.slotHc ∧ s.par.frame.half = 4
      ∧ (slotOf s.par.frame.grid s.par.frame.slot).soloA.isSome = true) := by decide

theorem witness_slot_end : endsSlot crossing (slotEnding 14) = true ∧ (slotEnding 14).par.frame.slot < 15 := by decide

/-- RING's measurement, one half-cycle short of its slot. -/
def ringMeasure : Measurement :=
  { load := .ring, count := 99, offSum := 2480, onSum := 95 * 9380, voltSum := 95 * 2300, void := false }

theorem witness_frame_first :
    qualified crossing standby = true ∧ standby.par.frame.state ≠ .firing ∧ standby.par.frame.state = .waiting := by decide

theorem witness_frame_boundary : endsFrame crossing (slotEnding 15) = true ∧ qualified crossing (slotEnding 15) = true := by
  decide

theorem witness_frame_return :
    (let s := { cooking with par := { cooking.par with frame := { cooking.par.frame with state := .halted } } }
     qualified crossing s = true ∧ s.par.frame.state ≠ .firing ∧ s.par.frame.state = .halted) := by decide

theorem witness_rotation :
    ListLaw (slotEnding 15) ∧ qualified crossing (slotEnding 15) = true ∧ endsFrame crossing (slotEnding 15) = true
      ∧ (slotEnding 15).par.policies.get 1 = .fixed ∧ (slotEnding 15).par.policies.get 2 = .rotating
      ∧ (slotEnding 15).par.lists.get 2 = [.top, .bottom] ++ .ring :: [.grill]
      ∧ (∀ k, k ∈ [LoadId.top, .bottom] → (load (after (.zeroCross crossing) (slotEnding 15)) k).served = 0)
      ∧ 1 ≤ (load (after (.zeroCross crossing) (slotEnding 15)) .ring).served :=
  ⟨⟨list_cooking.own_class, list_cooking.once, list_cooking.placement⟩, by decide, by decide, by decide, by decide, by decide, by decide, by decide⟩

theorem witness_rotation_unserved :
    ListLaw standby ∧ qualified crossing standby = true ∧ standby.par.frame.state ≠ .firing
      ∧ standby.par.policies.get 2 = .rotating
      ∧ ∀ l, l ∈ standby.par.lists.get 2 → (load (after (.zeroCross crossing) standby) l).served = 0 :=
  ⟨list_standby, by decide, by decide, by decide, by decide⟩

theorem witness_schedule :
    ListLaw cooking ∧ eligible cooking .top = false ∧ isSolo (slotOf (schedule cooking) 0) .ring = true
      ∧ soloOn (slotOf (schedule cooking) 0) .a = some .ring := ⟨list_cooking, by decide, by decide, by decide⟩

theorem witness_power : 20 ≤ 20 ∧ (List.replicate 20 (2300, 9000)).length = 20 := by decide

theorem witness_power_in_window :
    (∀ p, p ∈ List.replicate 4 (2800, 0) ++ List.replicate 16 (2800, 40000) → p.1 ≤ 2800 ∧ p.2 ≤ 40000)
      ∧ (List.replicate 4 (2800, 0) ++ List.replicate 16 (2800, 40000)).length = 20 := by decide

theorem witness_supply_loss : FiringLaw cooking ∧ cooking.par.frame.state = .firing := ⟨firing_cooking, by decide⟩

theorem witness_supply_loss_waiting : standby.par.frame.state ≠ .firing := by decide

/-! The door, the climate, the boiler's clock and the step tick -/

theorem witness_door_opens :
    doorMoved.dlu.debounce = true ∧ doorMoved.dlu.input = .opened ∧ doorMoved.dlu.door ≠ .opened ∧ FiringLaw doorMoved
      ∧ PauseLaw doorMoved ∧ takesPause doorMoved.run.state .door = true ∧ doorMoved.run.pause.door = false :=
  ⟨by decide, by decide, by decide, firingLaw_congr (s := cooking) rfl rfl firing_cooking, pauseLaw_congr (s := cooking) rfl rfl pause_cooking, by decide,
   by decide⟩

theorem witness_door_closes :
    standby.dlu.debounce = true ∧ standby.dlu.input = .closed ∧ standby.dlu.door ≠ .closed := by decide

theorem witness_door_same :
    (let d := { cooking.dlu with debounce := true }
     d.debounce = true ∧ d.input = .closed ∧ d.door = .closed) := by decide

theorem witness_loop :
    (let s := roastAt (at_ 1650)
     s.clc.loopTimer.isSome = true ∧ s.clc.climate.tempUse = true ∧ s.clc.climate.setpoint = some 1800
      ∧ s.msu.cavity.fault = false ∧ s.msu.cavity.filtered = some 1650 ∧ s.run.pause.isEmpty = true
      ∧ ¬ (1000 < (346 : Int) ∧ 0 < (150 : Int)) ∧ ¬ ((346 : Int) < 0 ∧ (150 : Int) < 0)) := by decide

theorem witness_loop_held :
    (let s := roastAt (at_ 800)
     s.clc.climate.setpoint = some 1800 ∧ s.msu.cavity.filtered = some 800 ∧ s.clc.integral = 6000
      ∧ (1000 : Int) < 625 + 6375 / 16 ∧ (0 : Int) < 1000) := by decide

theorem witness_loop_split :
    (let s := roastAt (at_ 1650)
     s.clc.loopTimer.isSome = true ∧ s.clc.climate.kind ≠ .none ∧ s.clc.climate.tempUse = true
      ∧ s.clc.climate.setpoint.isSome = true ∧ s.msu.cavity.filtered.isSome = true ∧ ovenMode s ≠ .service) := by decide

theorem witness_tick_fill :
    (let s := { boilerIn .filling standby with sgc := { (boilerIn .filling standby).sgc with fillTimer := 88 } }
     (s.sgc.state = .filling ∨ s.sgc.state = .refilling) ∧ s.sgc.fillTimer < 89) := by decide

theorem witness_tick_heat :
    (let s := { steaming with sgc := { steaming.sgc with state := .heating, heatCount := 598 } }
     s.sgc.state = .heating ∧ (load s .boiler).mask.isEmpty = true ∧ s.sgc.heatCount < 599) := by decide

theorem witness_tick_heat_masked :
    (boilerIn .heating standby).sgc.state = .heating ∧ (load (boilerIn .heating standby) .boiler).mask.isEmpty = false := by
  decide

theorem witness_tick_drain :
    (let s := { boilerIn .draining standby with sgc := { (boilerIn .draining standby).sgc with drainCount := some 38 } }
     s.sgc.state = .draining ∧ s.sgc.drainCount = some 38 ∧ 38 < 39)
      ∧ (boilerIn .draining standby).sgc.drainCount = .none := by decide

theorem witness_tick_soak :
    (let s := { descaling with
       sgc := { descaling.sgc with soakedS := some 100 }
       msu := { descaling.msu with boiler := at_ 580 } }
     s.sgc.state = .soaking ∧ s.sgc.soakedS = some 100 ∧ s.sgc.request = .soak 600 ∧ s.msu.boiler.filtered = some 580
      ∧ s.run.pause.isEmpty = true ∧ (600 : Int) - 20 ≤ 580 ∧ 100 < 65535 ∧ s.run.latched.duration = some 1800
      ∧ 100 + 1 < 1800) := by decide

theorem witness_tick_soak_cool :
    descaling.sgc.state = .soaking ∧ descaling.sgc.soakedS = some 1799 ∧ descaling.sgc.request = .soak 600
      ∧ (579 : Int) < 600 - 20 := by decide

theorem witness_tick_soak_paused :
    (let s := { descaling with run := { descaling.run with pause := { host := true } } }
     s.sgc.state = .soaking ∧ s.run.pause.isEmpty = false) := by decide

theorem witness_tick_still : standby.sgc.state = .empty ∧ steaming.sgc.state = .steaming ∧ faulty.sgc.state = .fault := by
  decide

theorem witness_tick_step :
    (let s := { cooking with run := { cooking.run with elapsedS := 598 } }
     s.run.state = .active ∧ s.run.pause.isEmpty = true ∧ currentStep s = some (.climate roast)
      ∧ s.run.latched.duration = some 600 ∧ min 65535 (s.run.elapsedS + 1) < 600) := by decide

theorem witness_tick_hold :
    (let s := { keptWarm with run := { keptWarm.run with holdS := 3598 } }
     s.run.state = .holding ∧ s.run.holdS < 3599) ∧ waiting.run.state = .awaitConfirm ∧ paused.run.pause.isEmpty = false := by
  decide

/-- A fill or refill one second before its end, HIGH dry. -/
def filling (b : BoilerState) (low : Level) : State :=
  { standby with
    msu := { standby.msu with low := { reported := low, changeRun := 0 } }
    sgc := { standby.sgc with
      state := b, fillTimer := 89, content := .water, purpose := .cook
      prior := if b = .refilling then some .ready else .none }
    ldt := { standby.ldt with
      loads := standby.ldt.loads.set .boiler { standby.ldt.loads.boiler with mask := { level := levelIn b } }
      aux := { standby.ldt.aux with feedPump := true } } }

theorem witness_fill_timeout :
    BoilerLaw (filling .filling .dry) ∧ (filling .filling .dry).sgc.state = .filling
      ∧ 89 ≤ (filling .filling .dry).sgc.fillTimer ∧ (filling .filling .dry).msu.high.reported = .dry
      ∧ (filling .filling .dry).msu.low.reported = .dry := by
  refine ⟨?_, by decide⟩
  constructor <;> first | decide | (intro h; exact absurd h (by decide))

theorem witness_refill_timeout :
    BoilerLaw (filling .refilling .wet) ∧ (filling .refilling .wet).sgc.state = .refilling
      ∧ 89 ≤ (filling .refilling .wet).sgc.fillTimer ∧ (filling .refilling .wet).msu.high.reported = .dry
      ∧ (filling .refilling .wet).msu.low.reported = .wet := by
  refine ⟨?_, by decide⟩
  constructor <;> first | decide | (intro _ c h; cases h)

theorem witness_heat_timeout :
    (let s := { steaming with sgc := { steaming.sgc with state := .heating, heatCount := 599 } }
     BoilerLaw s ∧ s.sgc.state = .heating ∧ (load s .boiler).mask.isEmpty = true ∧ 599 ≤ s.sgc.heatCount) := by
  refine ⟨?_, by decide⟩
  constructor <;> first | decide | (intro h; exact absurd h (by decide))

/-- A drain one second before its end. -/
def drainedOf (c : Content) (p : Purpose) (soaked : Option Nat) : State :=
  { boilerIn .draining standby with sgc :=
    { (boilerIn .draining standby).sgc with drainCount := some 39, content := c, purpose := p, soakedS := soaked } }

theorem witness_drain_descaler :
    (let s := drainedOf .descaler .descale (some 1500)
     ScaleLaw s ∧ s.sgc.state = .draining ∧ s.sgc.drainCount = some 39 ∧ 39 ≤ 39
      ∧ (s.run.state = .idle ∧ s.sgc.request = .none ∧ cookingWant s = false)
      ∧ s.sgc.content = .descaler ∧ 1500 ≤ s.sgc.soakedS.getD 0) := by
  refine ⟨?_, by decide⟩
  constructor <;> decide

theorem witness_drain_rinse :
    (let s := drainedOf .water .rinse (some 300)
     ScaleLaw s ∧ s.sgc.content = .water ∧ s.sgc.purpose = .rinse ∧ 300 ≤ s.sgc.soakedS.getD 0) := by
  refine ⟨?_, by decide⟩
  constructor <;> decide

theorem witness_drain_nothing :
    (let s := drainedOf .descaler .descale (some 1499)
     let u := drainedOf .water .rinse (some 299)
     (s.sgc.content = .descaler ∧ s.sgc.soakedS.getD 0 < 1500)
      ∧ u.sgc.content = .water ∧ u.sgc.soakedS.getD 0 < 300) := by decide

theorem witness_drain_ending :
    ScaleLaw ending ∧ ending.sgc.state = .draining ∧ ending.sgc.drainCount = some 39 ∧ ending.run.state = .ending
      ∧ ending.sgc.request = .drain ∧ ending.sgc.lookAhead = false ∧ ending.sgc.needsSteam = false := by
  refine ⟨?_, by decide⟩
  constructor <;> decide

theorem witness_soak_ends :
    0 ≤ 1 ∧ descaling.run.slot = some 0 ∧ descaling.run.position = some 3 ∧ descaling.run.state = .active
      ∧ descaling.run.pause.isEmpty = true ∧ stepAt descaling 0 3 = some (.boilerSoak 600 1800)
      ∧ descaling.run.latched.duration = some 1800 ∧ descaling.sgc.state = .soaking
      ∧ descaling.sgc.request = .soak 600 ∧ descaling.sgc.soakedS = some 1799
      ∧ descaling.msu.boiler.filtered = some 590 ∧ (600 : Int) - 20 ≤ 590 ∧ 1800 ≤ 1799 + 1 ∧ 1799 < 65535 := by decide

/-- The roast one second before its end. -/
def almost : State := { cooking with run := { cooking.run with elapsedS := 599 } }

theorem witness_step_ends :
    RunLaw almost ∧ NextIsUserStep almost ∧ almost.run.state = .active ∧ almost.run.pause.isEmpty = true
      ∧ currentStep almost = some (.climate roast) ∧ almost.run.latched.duration = some 600
      ∧ roast.endCond ≠ .confirm ∧ 600 ≤ min 65535 (almost.run.elapsedS + 1) ∧ roast.endCond = .time := by
  refine ⟨by constructor <;> decide, ?_, by decide⟩
  intro st h
  have h' : some (Step.confirm 9) = some st := h
  cases h'
  rfl

/-- A CORE step with a cap, one second before it. -/
def capped : State :=
  { almost with pst := { almost.pst with
    pool := almost.pst.pool.set 0 (some (.climate { roast with endCond := .core, core := some (plain 700) })) } }

theorem witness_step_caps :
    ∃ c, currentStep capped = some (.climate c) ∧ c.endCond ≠ .time ∧ c.endCond ≠ .confirm
      ∧ capped.run.latched.duration = some 600 ∧ 600 ≤ min 65535 (capped.run.elapsedS + 1) :=
  ⟨_, rfl, by decide, by decide, by decide, by decide⟩

theorem witness_rises :
    ScaleLaw standby ∧ exec (.setScale 6000 1 180) standby = .next (after (.setScale 6000 1 180) standby)
      ∧ completedCode (.setScale 6000 1 180) standby ≠ some 0x09 ∧ completedCode (.setScale 6000 1 180) standby ≠ some 0x5F
      ∧ ∀ a b, Instr.setScale 6000 1 180 ≠ .resetRelease a b := by
  refine ⟨?_, rfl, by decide, by decide, fun _ _ h => by cases h⟩
  constructor <;> decide

/-! Clauses of refusal -/

theorem witness_refused_in_service :
    Hears service ∧ (ovenMode service = .standby ∨ ovenMode service = .service) := ⟨hears_service, by decide⟩

theorem witness_refused_rotation_index :
    [(5 : Byte)].length ≤ 5 ∧ (3 : Byte).toNat ≤ 3 ∧ (∃ b, b ∈ [(5 : Byte)] ∧ 4 < b.toNat) ∧ 1 < (2 : Byte).toNat :=
  ⟨by decide, by decide, ⟨5, by decide, by decide⟩, by decide⟩

/-- Four variable entries, the first of them given. -/
def firstVar (p : Byte) (value min max : Word) : RawVars :=
  { noVars with v0 := { presence := p, value := value, min := min, max := max } }

theorem witness_vars_refused :
    VarsRefused (firstVar 2 0 0 0) ∧ VarsRefused (firstVar 1 9 10 20) ∧ VarsRefused (firstVar 1 21 10 20)
      ∧ ¬ VarsRefused noVars := by
  refine ⟨⟨_, .head _, by decide⟩, ⟨_, .head _, by decide⟩, ⟨_, .head _, by decide⟩, ?_⟩
  rintro ⟨e, he, h⟩
  have : e = { presence := 0, value := 0, min := 0, max := 0 } := by simpa [noVars] using he
  subst this
  revert h
  decide

theorem witness_define_refused :
    Hears half ∧ ovenMode half ≠ .service ∧ 7 < (8 : Byte).toNat ∧ (1 : Byte).toNat < 2 ∧ 2 ≤ (2 : Byte).toNat
      ∧ (7 : Byte).toNat ≤ 7 ∧ (1 : Byte) ≠ 0 ∧ (0 : Word).toNat = 0 ∧ (599 : Word).toNat < 600 ∧ 900 < (901 : Word).toNat
      ∧ (2 : Byte) ≠ 1 ∧ ∀ d, half.lif.pendingDef = some d → d.slot ≠ (2 : Byte).toNat := by
  refine ⟨⟨by decide, by decide⟩, by decide, by decide, by decide, by decide, by decide, by decide, by decide, by decide,
    by decide, by decide, ?_⟩
  intro d h
  cases h
  decide

/-- A state with a pending definition of a slot, no variable in it. -/
def pendingFor (slot tag : Nat) (s : State) : State :=
  { s with lif := { s.lif with
    pendingDef := some { slot := slot, tag := tag, keepWarm := .none, vars := [.none, .none, .none, .none] } } }

theorem witness_define_duplicate :
    Hears (pendingFor 3 7 stored) ∧ ovenMode (pendingFor 3 7 stored) ≠ .service
      ∧ variablesOf noVars = some [.none, .none, .none, .none]
      ∧ ∃ k p, k ≠ (3 : Byte).toNat ∧ userProgram (pendingFor 3 7 stored) k = some p ∧ p.tag = 7 :=
  ⟨⟨by decide, by decide⟩, by decide, by decide, 2, program, by decide, by decide, by decide⟩

/-- The named roast, stored and not running. -/
def namedStored : State := { stored with pst := named.pst }

theorem user_stored (slot : Nat) (p : Program) (h : userProgram stored slot = some p) : slot = 2 :=
  (user_cooking slot p h).1

theorem witness_define_in_use :
    (let s := pendingFor 2 8 cooking
     let u := pendingFor 2 8 namedStored
     Hears s ∧ ovenMode s ≠ .service ∧ isRunningSlot s (2 : Byte).toNat = true
      ∧ (∀ k p, k ≠ (2 : Byte).toNat → userProgram s k = some p → p.tag ≠ 8)
      ∧ Hears u ∧ (∃ p st i, stepAt u (2 : Byte).toNat p = some st ∧ Step.names i st = true
        ∧ (eightVars [.none, .none, .none, .none] [.none, .none, .none, .none])[i].isSome = false)) := by
  refine ⟨⟨by decide, by decide⟩, by decide, by decide, ?_, ⟨by decide, by decide⟩, 0, _, 0, rfl, by decide, by decide⟩
  intro k p hk h
  exact absurd (user_cooking k p h).1 hk

/-- A CLIMATE record whose temperature names a variable. -/
def rawNaming (v : Byte) : RawStep :=
  { rawConfirm with kind := 0, mode := 1, presence := 5, temp := { noExpr with base := v, index := 0xFF, scale := 1 }
                    duration := { noExpr with base := 0xFF, index := 0xFF, scale := 1 } }

theorem witness_record_refused :
    RecordRefused stored program (rawNaming 1) .noSuch ∧ RecordRefused stored program { rawConfirm with kind := 2 } .protect
      ∧ RecordRefused stored program { rawConfirm with kind := 9 } .range :=
  ⟨.inl (by decide), .inr (.inl (by decide)), .inr (.inr (by decide))⟩

/-- Slot 2 with twenty steps. -/
def full : State :=
  { stored with pst := { stored.pst with
    programs := stored.pst.programs.set 0 (some { program with steps := List.range 20 }) } }

theorem witness_edit_refused :
    Hears stored ∧ ovenMode stored ≠ .service ∧ 2 ≤ (3 : Byte).toNat ∧ userProgram stored (3 : Byte).toNat = .none
      ∧ (1 : Byte).toNat < 2 ∧ userProgram stored (2 : Byte).toNat = some program
      ∧ checkStep stored (2 : Byte).toNat rawConfirm = .ok (.confirm 5) ∧ program.steps.length < (3 : Byte).toNat
      ∧ program.steps.length ≤ (2 : Byte).toNat :=
  ⟨hears_stored, by decide, by decide, by decide, by decide, by decide, by decide, by decide, by decide⟩

theorem witness_append_in_use :
    Hears keptWarm ∧ ovenMode keptWarm ≠ .service ∧ userProgram keptWarm (2 : Byte).toNat = some program
      ∧ checkStep keptWarm (2 : Byte).toNat rawConfirm = .ok (.confirm 5)
      ∧ isRunningSlot keptWarm (2 : Byte).toNat = true ∧ hasCurrent keptWarm = false :=
  ⟨⟨by decide, by decide⟩, by decide, by decide, by decide, by decide, by decide⟩

theorem witness_append_full :
    Hears full ∧ ovenMode full ≠ .service
      ∧ (∃ p, userProgram full (2 : Byte).toNat = some p ∧ 20 ≤ p.steps.length ∧ (2 : Byte).toNat ≤ p.steps.length)
      ∧ checkStep full (2 : Byte).toNat rawConfirm = .ok (.confirm 5) ∧ isRunningSlot full (2 : Byte).toNat = false
      ∧ ¬ PositionRefused full (2 : Byte).toNat (2 : Byte).toNat :=
  ⟨⟨by decide, by decide⟩, by decide, ⟨_, rfl, by decide, by decide⟩, by decide, by decide, fun h => absurd h.1 (by decide)⟩

theorem witness_position_refused :
    Hears cooking ∧ ovenMode cooking ≠ .service ∧ userProgram cooking (2 : Byte).toNat = some program
      ∧ PositionRefused cooking (2 : Byte).toNat (0 : Byte).toNat ∧ (0 : Byte).toNat < program.steps.length
      ∧ isRunningSlot cooking (2 : Byte).toNat = true :=
  ⟨hears_cooking, by decide, by decide, ⟨by decide, fun _ => by decide⟩, by decide, by decide⟩

theorem witness_variable_refused :
    (program.vars[(1 : Byte).toNat]?).join = .none ∧ (program.vars[(8 : Byte).toNat]?).join = .none := by decide

/-- Slot 2 with one step. -/
def oneStep (steps : List Nat) (mode : Fin 8) : State :=
  { stored with pst :=
    { programs := stored.pst.programs.set 0 (some { program with steps := steps })
      pool := stored.pst.pool.set 0 (some (.climate { roast with mode := mode })) } }

theorem witness_start_refused :
    Hears stored ∧ ovenMode stored = .standby ∧ 2 ≤ (3 : Byte).toNat ∧ userProgram stored (3 : Byte).toNat = .none
      ∧ userProgram (oneStep [] 1) (2 : Byte).toNat = some { program with steps := [] } :=
  ⟨hears_stored, by decide, by decide, by decide, by decide⟩

theorem witness_start_water :
    (let s := { oneStep [0] 6 with sca := { standby.sca with scaleMg := 6000, stage := .lock } }
     Hears s ∧ ovenMode s = .standby ∧ (∃ p, userProgram s (2 : Byte).toNat = some p ∧ p.steps ≠ [])
      ∧ s.sca.stage = .lock ∧ ∃ n st, stepAt s (2 : Byte).toNat n = some st ∧ isSteamStep s st = true) :=
  ⟨⟨by decide, by decide⟩, by decide, ⟨_, rfl, by decide⟩, by decide, 0, _, rfl, by decide⟩

theorem witness_start_rinse_due :
    (let s := { stored with sca := { stored.sca with rinseDue := true } }
     Hears s ∧ ovenMode s = .standby ∧ program.steps ≠ [] ∧ s.sca.rinseDue = true) :=
  ⟨⟨by decide, by decide⟩, by decide, by decide, by decide⟩

theorem witness_confirm_system :
    Hears rinsing ∧ ovenMode rinsing = .running ∧ 1 ≤ 1 ∧ rinsing.run.slot = some 1 ∧ rinsing.run.position = some 0
      ∧ rinsing.run.state = .awaitConfirm ∧ rinsing.run.awaiting = some .step
      ∧ stepAt rinsing 1 (0 + 1) = some (.boilerFill .water) ∧ rinsing.sgc.state = .empty
      ∧ rinsing.msu.high.reported = .dry ∧ (boilerIn .standing rinsing).sgc.state ≠ .empty
      ∧ (boilerIn .fault rinsing).sgc.state = .fault :=
  ⟨⟨by decide, by decide⟩, by decide, by decide, by decide, by decide, by decide, by decide, by decide, by decide, by decide,
   by decide, by decide⟩

theorem witness_adjust_refused :
    Hears rinsing ∧ ovenMode rinsing = .running ∧ runsSystem rinsing = true
      ∧ Hears keptWarm ∧ ovenMode keptWarm = .running ∧ runsSystem keptWarm = false ∧ keptWarm.run.state = .holding
      ∧ Hears cooking ∧ cooking.run.latched.humidity = .none ∧ waitingNext.run.awaiting = some .next :=
  ⟨⟨by decide, by decide⟩, by decide, by decide, ⟨by decide, by decide⟩, by decide, by decide, by decide, hears_cooking,
   by decide, by decide⟩

/-! Boiler samples, REACHED, CORE, the electrodes -/

/-- The cooking boiler in a state, with its request and its temperature. -/
def boiled (b : BoilerState) (r : StepRequest) (T : Int) : State :=
  { steaming with
    msu := { steaming.msu with boiler := at_ T, high := { reported := .dry, changeRun := 2 } }
    sgc := { steaming.sgc with
      state := b, request := r, served := b == .soaking, prior := if b = .refilling then some .ready else .none }
    ldt := { steaming.ldt with
      loads := steaming.ldt.loads.set .boiler
        { steaming.ldt.loads.boiler with mask := { level := levelIn b, dryfire := b == .fault } }
      aux := { steaming.ldt.aux with feedPump := b == .filling || b == .refilling, drainPump := b == .draining } } }

/-- The boiler states and requests of the witnesses. -/
def boiledCases : List (BoilerState × StepRequest) :=
  [(.heating, .none), (.ready, .none), (.steaming, .none), (.refilling, .none), (.refilling, .soak 600), (.soaking, .soak 600),
   (.standing, .none), (.standing, .soak 600), (.empty, .none), (.filling, .none), (.filling, .fill .water),
   (.filling, .soak 600)]

theorem boiler_boiled_cold : ∀ p ∈ boiledCases, BoilerLaw (boiled p.1 p.2 0) := by
  simp only [boiledCases, List.forall_mem_cons]
  repeat' apply And.intro
  all_goals first
    | exact fun _ h => absurd h List.not_mem_nil
    | exact ⟨by decide, by decide, by decide, by decide, by decide, by decide, by decide, by decide, by decide, by decide,
        fun a _ h => by first | exact absurd a (by decide) | cases h⟩

theorem boiler_boiled (b : BoilerState) (r : StepRequest) (T : Int) (h : (b, r) ∈ boiledCases) : BoilerLaw (boiled b r T) :=
  have c := boiler_boiled_cold (b, r) h
  ⟨c.level, c.dryfire, c.feed, c.drain, c.prior, c.thermostat, c.served, c.steaming, c.hot, c.pumping, c.refilling⟩

theorem witness_boiler_sample :
    (∀ b r, (b, r) ∈ boiledCases → BoilerLaw (boiled b r 980)) ∧ (at_ 980).fault = false ∧ -200 ≤ (980 : Int)
      ∧ (980 : Int) ≤ 2000 ∧ (980 : Int) = filteredAfter (at_ 980) 980 ∧ (979 : Int) = filteredAfter (at_ 979) 979
      ∧ (1300 : Int) = filteredAfter (at_ 1300) 1300 ∧ cookingWant (boiled .heating .none 980) = true
      ∧ steamBlocked (boiled .standing .none 980) = false ∧ (boiled .standing .none 980).sgc.content = .water
      ∧ (boiled .standing (.soak 600) 980).sgc.served = false ∧ (boiled .refilling .none 980).sgc.prior = some .ready :=
  ⟨fun b r h => boiler_boiled b r 980 h, by decide, by decide, by decide, by decide, by decide, by decide, by decide, by decide, by decide,
   by decide, by decide⟩

theorem witness_boiler_sample_standing :
    (let s := { boiled .standing .none 900 with sgc := { (boiled .standing .none 900).sgc with content := .descaler } }
     let u := { boiled .standing .none 900 with sgc := { (boiled .standing .none 900).sgc with needsSteam := false } }
     s.sgc.state = .standing ∧ s.sgc.request = .none ∧ s.sgc.content = .descaler ∧ u.sgc.request = .none
      ∧ cookingWant u = false) := by decide

/-- A REACHED step at 180.0 °C, the cavity at a temperature. -/
def reaching (T : Int) : State :=
  { roastAt (at_ T) with pst := { cooking.pst with
    pool := cooking.pst.pool.set 0 (some (.climate { roast with endCond := .reached, duration := .none })) } }

theorem witness_reached :
    RunLaw (reaching 1780) ∧ NextIsUserStep (reaching 1780) ∧ (reaching 1780).run.state = .active
      ∧ (reaching 1780).run.pause.isEmpty = true
      ∧ (∃ c, currentStep (reaching 1780) = some (.climate c) ∧ c.endCond = .reached)
      ∧ (reaching 1780).run.latched.temp = some 1800 ∧ (1780 : Int) = filteredAfter (at_ 1780) 1780
      ∧ (1800 : Int) - 20 ≤ 1780 ∧ (1779 : Int) = filteredAfter (at_ 1779) 1779 ∧ (1779 : Int) < 1800 - 20 := by
  refine ⟨runLaw_congr (s := cooking) rfl rfl rfl run_cooking, ?_, by decide, by decide, ⟨_, rfl, rfl⟩, by decide⟩
  intro st h
  have h' : some (Step.confirm 9) = some st := h
  cases h'
  rfl

theorem witness_moisture_fault :
    (let s := { cooking with msu := { cooking.msu with moisture := cavityAt false 2 0 } }
     s.msu.moisture.fault = false ∧ 2 ≤ s.msu.moisture.badRun ∧ (((-1) : Int) < 0 ∨ 100 < ((-1) : Int))
      ∧ ((101 : Int) < 0 ∨ 100 < (101 : Int)) ∧ s.clc.climate.humUse = false
      ∧ (stepClimate s 7 (some 1800) (some 40) .auto).humUse = true) := by decide

/-- The CORE step with its probe at a temperature. -/
def coreAt (T : Int) (p : PauseSet) : State :=
  { coring with
    msu := { coring.msu with probe := { reported := .present, changeRun := 0 }, core := at_ T }
    run := { coring.run with pause := p }
    ldt := { coring.ldt with loads := (allLoads.foldl (fun s l =>
      updLoad (fun d => { d with mask := { d.mask with pause := !p.isEmpty } }) l s) coring).ldt.loads } }

theorem witness_core_end :
    (let s := coreAt 700 { probe := true }
     RunLaw s ∧ PauseLaw s ∧ NextIsUserStep s ∧ s.run.state = .active
      ∧ (∃ c, currentStep s = some (.climate c) ∧ c.endCond = .core) ∧ s.run.latched.core = some 700
      ∧ s.msu.probeSeen = true ∧ s.msu.probe.reported = .present ∧ s.msu.core.fault = false
      ∧ (700 : Int) = filteredAfter s.msu.core 700 ∧ ({ s.run.pause with probe := false } : PauseSet).isEmpty = true) := by
  refine ⟨by constructor <;> decide, ⟨fun l => by cases l <;> decide, fun r => by cases r <;> decide⟩, ?_, by decide,
    ⟨_, rfl, rfl⟩, by decide⟩
  intro st h
  have h' : some (Step.confirm 9) = some st := h
  cases h'
  rfl

theorem witness_core_goes_on :
    (let s := coreAt 700 { host := true, probe := true }
     RunLaw s ∧ PauseLaw s ∧ ({ s.run.pause with probe := false } : PauseSet).isEmpty = false
      ∧ (699 : Int) = filteredAfter (coreAt 699 {}).msu.core 699 ∧ (699 : Int) < 700) :=
  ⟨by constructor <;> decide, ⟨fun l => by cases l <;> decide, fun r => by cases r <;> decide⟩, by decide⟩

theorem witness_core_fault :
    (let s := { coreAt 700 {} with msu := { (coreAt 700 {}).msu with core := cavityAt false 2 0 } }
     let t := after (.probeSample .present 1201) s
     t.msu.probe.reported = .present ∧ t.msu.core.fault = true ∧ s.msu.core.fault = false
      ∧ s.run.latched.duration = .none ∧ ¬ (0 ≤ (1201 : Int) ∧ (1201 : Int) ≤ 1200)) := by decide

theorem witness_high_rises :
    (∀ b r, (b, r) ∈ boiledCases → BoilerLaw (boiled b r 590))
      ∧ (boiled .filling .none 590).msu.electrodesSeen = true ∧ (boiled .filling .none 590).msu.high.reported = .dry
      ∧ 2 ≤ (boiled .filling .none 590).msu.high.changeRun ∧ cookingWant (boiled .filling .none 590) = true
      ∧ steamBlocked (boiled .filling .none 590) = false ∧ boilerTempOk (boiled .filling .none 590) = true
      ∧ (boiled .filling .none 590).sgc.content = .water ∧ (boiled .filling (.fill .water) 590).run.state ≠ .active
      ∧ (boiled .refilling .none 590).sgc.request = .none :=
  ⟨fun b r h => boiler_boiled b r 590 h, by decide, by decide, by decide, by decide, by decide, by decide, by decide, by decide,
   by decide⟩

theorem witness_high_rises_soak :
    (let s := { boiled .refilling (.soak 600) 590 with run := descaling.run }
     (s.sgc.state = .filling ∨ s.sgc.state = .refilling) ∧ s.sgc.request = .soak 600
      ∧ currentStep s = some (.boilerSoak 600 1800) ∧ boilerTempOk s = true) := by decide

theorem witness_high_rises_unwanted :
    (let s := { boiled .filling .none 590 with sgc := { (boiled .filling .none 590).sgc with needsSteam := false } }
     s.sgc.state = .filling ∧ s.sgc.request = .none ∧ cookingWant s = false) := by decide

/-- DESCALE at a position, its boiler in a state with a request. -/
def descalingAt (pos : Nat) (b : BoilerState) (r : StepRequest) : State :=
  { descaling with
    run := { descaling.run with position := some pos, latched := {} }
    sgc := { descaling.sgc with state := b, request := r, served := false, drainCount := some 39, soakedS := some 0 }
    msu := { descaling.msu with electrodesSeen := true, high := { reported := .dry, changeRun := 2 } } }

theorem witness_fill_step_ends :
    (let s := descalingAt 2 .filling (.fill .descaler)
     s.run.slot = some 0 ∧ s.run.position = some 2 ∧ s.run.state = .active ∧ s.run.pause.isEmpty = true
      ∧ stepAt s 0 2 = some (.boilerFill .descaler) ∧ stepAt s 0 (2 + 1) = some (.boilerSoak 600 1800)
      ∧ s.sgc.state = .filling ∧ s.sgc.request = .fill .descaler ∧ s.msu.boiler.fault = false
      ∧ s.msu.boiler.filtered = some 590 ∧ s.msu.electrodesSeen = true ∧ s.msu.high.reported = .dry
      ∧ 2 ≤ s.msu.high.changeRun) := by decide

/-! Slots, patterns, the door, the loops, the boiler's ends -/

/-- RING's solo slot at its end. -/
def soloEnding : State := { slotEnding 0 with ldt := { (slotEnding 0).ldt with measA := some ringMeasure } }

theorem firing_soloEnding : FiringLaw soloEnding where
  on_allowed l := by cases l <;> decide
  capacity := firing_cooking.capacity
  solo := firing_cooking.solo

theorem solo_soloEnding : SoloLaw soloEnding where
  baseline l := by cases l <;> decide
  held g m h := by cases g <;> cases h; rfl
  standing g m h _ := by cases g <;> cases h; decide
  fired g m h _ _ _ := by cases g <;> cases h; decide

theorem witness_slot_end_measured :
    FiringLaw soloEnding ∧ SoloLaw soloEnding ∧ endsSlot crossing soloEnding = true ∧ soloEnding.par.frame.slot < 15
      ∧ (∃ m, finalMeasurement crossing soloEnding .a = some m ∧ stands soloEnding m = true ∧ m.load = .ring)
      ∧ finalMeasurement crossing soloEnding .b = .none ∧ legOverloaded crossing soloEnding .a = false
      ∧ legOverloaded { crossing with ampsA := 16741 } soloEnding .a = false
      ∧ legOverloaded { crossing with ampsA := 16742 } soloEnding .a = true :=
  ⟨firing_soloEnding, solo_soloEnding, by decide, by decide, ⟨_, rfl, by decide, by decide⟩, by decide, by decide, by decide,
   by decide⟩

theorem witness_slot_end_void :
    (let s := { soloEnding with ldt := { soloEnding.ldt with measA := some { ringMeasure with void := true } } }
     ∀ g m, finalMeasurement crossing s g = some m → m.load = .ring → stands s m = false) := by
  intro s g m h _
  cases g <;> cases h
  decide

theorem witness_pattern_advances :
    (let s (p : Pattern) : State := { slotEnding 15 with svc := { (slotEnding 15).svc with pattern := p } }
     endsFrame crossing (s (.walk .boiler)) = true ∧ qualified crossing (s (.walk .boiler)) = true
      ∧ (s (.walk .boiler)).svc.pattern = .walk .boiler ∧ endsFrame crossing (s (.alternate .odd)) = true
      ∧ (s (.alternate .odd)).svc.pattern = .alternate .odd ∧ (s .allOff).svc.pattern = .allOff) := by decide

theorem witness_door_closes_on_a_run :
    (let s := { roastAt (at_ 601) with dlu := { cooking.dlu with door := .opened, debounce := true } }
     s.dlu.debounce = true ∧ s.dlu.input = .closed ∧ s.dlu.door ≠ .closed ∧ s.run.state ≠ .ending
      ∧ s.clc.climate.kind ≠ .none ∧ PauseLaw s ∧ ∀ st, currentStep s = some st → isUserStep st = true) := by
  refine ⟨by decide, by decide, by decide, by decide, by decide, pauseLaw_congr (s := cooking) rfl rfl pause_cooking, ?_⟩
  intro st h
  have h' : some (Step.climate roast) = some st := h
  cases h'
  rfl

theorem witness_loop_cases :
    (roastAt (cavityAt true 0 0)).clc.loopTimer.isSome = true ∧ (roastAt (cavityAt true 0 0)).msu.cavity.fault = true
      ∧ cooking.msu.cavity.fault = false ∧ cooking.msu.cavity.filtered = .none ∧ cooking.clc.climate.tempUse = true
      ∧ cooking.clc.climate.setpoint.isSome = true ∧ cooking.clc.climate.humUse = false
      ∧ cooking.clc.climate.vent = .auto ∧ cooking.clc.climate.kind ≠ .none
      ∧ (stepClimate cooking 0 .none .none .opened).tempUse = false
      ∧ (stepClimate cooking 0 .none .none .opened).vent = .opened := by decide

theorem witness_loop_humidity :
    (let s := { cooking with
       clc := { cooking.clc with climate := stepClimate cooking 7 (some 1800) (some 60) .auto }
       msu := { cooking.msu with moisture := at_ 66 } }
     s.clc.loopTimer.isSome = true ∧ s.clc.climate.humUse = true ∧ s.clc.climate.humSet = some 60
      ∧ s.msu.moisture.fault = false ∧ s.msu.moisture.filtered = some 66 ∧ (60 : Int) + s.clc.loop.band < 66
      ∧ (cavityAt true 0 0).fault = true ∧ cooking.msu.moisture.filtered = .none) := by decide

theorem witness_dry_fire :
    (∀ b r, (b, r) ∈ boiledCases → BoilerLaw (boiled b r 1301)) ∧ 1300 < filteredAfter (at_ 1301) 1301
      ∧ (boiled .soaking (.soak 600) 1301).sgc.state = .soaking ∧ (at_ 1301).fault = false
      ∧ (cavityAt true 0 2).fault = true ∧ 2 ≤ (cavityAt true 0 2).goodRun ∧ 1300 < (1301 : Int)
      ∧ (cavityAt false 2 0).fault = false ∧ 2 ≤ (cavityAt false 2 0).badRun ∧ (-201 : Int) < -200 ∧ 2000 < (2001 : Int)
      ∧ (boiled .standing .none 900).sgc.state = .standing :=
  ⟨fun b r h => boiler_boiled b r 1301 h, by decide, by decide, by decide, by decide, by decide, by decide, by decide, by decide,
   by decide, by decide, by decide⟩

/-- A boiler standing with its temperature channel faulted, one valid sample before the fault clears. -/
def clearing (r : StepRequest) : State :=
  { boiled .standing r 0 with msu := { (boiled .standing r 0).msu with boiler := cavityAt true 0 2 } }

theorem boiler_clearing (r : StepRequest) (h : (.standing, r) ∈ boiledCases) : BoilerLaw (clearing r) :=
  have c := boiler_boiled_cold (.standing, r) h
  ⟨c.level, c.dryfire, c.feed, c.drain, c.prior, c.thermostat, c.served, c.steaming, c.hot, c.pumping, c.refilling⟩

theorem witness_fault_clears_standing :
    BoilerLaw (clearing .none) ∧ BoilerLaw (clearing (.soak 600)) ∧ (clearing .none).sgc.state = .standing
      ∧ (clearing .none).msu.boiler.fault = true ∧ 2 ≤ (clearing .none).msu.boiler.goodRun
      ∧ cookingWant (clearing .none) = true ∧ steamBlocked (clearing .none) = false
      ∧ (clearing .none).sgc.content = .water ∧ (clearing (.soak 600)).sgc.served = false :=
  ⟨boiler_clearing _ (by decide), boiler_clearing _ (by decide), by decide⟩

theorem witness_fault_clears_unwanted :
    (let s := { clearing .none with sgc := { (clearing .none).sgc with needsSteam := false } }
     let u := { clearing .none with sgc := { (clearing .none).sgc with content := .descaler } }
     s.sgc.request = .none ∧ cookingWant s = false ∧ cookingWant u = true ∧ steamBlocked u = false) := by decide

theorem witness_drain_step :
    (let s (pos : Nat) : State := descalingAt pos .draining .drain
     (s 4).run.slot = some 0 ∧ (s 4).run.position = some 4 ∧ (s 4).run.state = .active ∧ (s 4).run.pause.isEmpty = true
      ∧ stepAt (s 4) 0 4 = some .boilerDrain ∧ (s 4).sgc.request = .drain ∧ (s 4).sgc.lookAhead = false
      ∧ (s 4).sgc.needsSteam = false ∧ (s 4).sgc.state = .draining ∧ (s 4).sgc.drainCount = some 39
      ∧ stepAt (s 4) 0 (4 + 1) = some (.confirm 251) ∧ stepAt (s 8) 0 8 = some .boilerDrain
      ∧ stepAt (s 8) 0 (8 + 1) = some (.boilerFill .water) ∧ (s 8).msu.high.reported = .dry
      ∧ stepAt (s 11) 0 11 = some .boilerDrain ∧ stepAt (s 11) 0 (11 + 1) = .none) := by decide

theorem witness_drain_step_rinsed :
    (let g := (descalingAt 11 .draining .drain).sgc
     let s (n : Nat) : Sgc := { g with content := .water, purpose := .rinse, soakedS := some n }
     (s 300).content = .water ∧ (s 300).purpose = .rinse ∧ 300 ≤ (s 300).soakedS.getD 0 ∧ (s 299).soakedS.getD 0 < 300
      ∧ (descalingAt 11 .draining .drain).sca.rinseSoaked = false) := by decide

theorem witness_drain_refills :
    (let s := descalingAt 2 .draining (.fill .descaler)
     s.sgc.state = .draining ∧ s.sgc.drainCount = some 39 ∧ s.sgc.served = false ∧ s.msu.high.reported = .dry
      ∧ s.sgc.request = .fill .descaler ∧ s.sgc.tankEmpty = false)
      ∧ (let s := { boiled .draining .none 900 with sgc := { (boiled .draining .none 900).sgc with drainCount := some 39 } }
         s.sgc.request = .none ∧ s.sgc.served = false ∧ cookingWant s = true ∧ steamBlocked s = false
          ∧ s.sgc.tankEmpty = false) := by decide

/-! Slot 15's end, the schedule, reset and the refusals of loads -/

/-- RING's solo slot is slot 15, at its end. -/
def soloClosing : State :=
  { slotEnding 15 with
    ldt := { (slotEnding 15).ldt with measA := some ringMeasure }
    par := { (slotEnding 15).par with frame := { (slotEnding 15).par.frame with
      grid := List.replicate 15 (ringSlot false) ++ [ringSlot true] } } }

theorem ring_soloClosing (x : Slot) (h : x ∈ soloClosing.par.frame.grid) : x = ringSlot true ∨ x = ringSlot false := by
  rcases List.mem_append.mp h with h | h
  · exact .inr (List.eq_of_mem_replicate h)
  · exact .inl (List.mem_singleton.mp h)

theorem firing_soloClosing : FiringLaw soloClosing where
  on_allowed l := by cases l <;> decide
  capacity n g := by
    refine slotOf_all (P := fun x => legSum soloClosing.par.frame.inForce x g ≤ soloClosing.par.frame.inForce.cap g) ?_ ?_ n
    · intro x hx; rcases ring_soloClosing x hx with rfl | rfl <;> cases g <;> decide
    · cases g <;> decide
  solo n g l h k := by
    revert h k
    refine slotOf_all (P := fun x => soloOn x g = some l → ∀ k, placedOn soloClosing.par.frame.inForce x g k = (k == l)) ?_ ?_ n
    · intro x hx h k
      rcases ring_soloClosing x hx with rfl | rfl <;> cases g <;> cases l <;> revert h <;> cases k <;> decide
    · intro h; cases g <;> cases h

theorem solo_soloClosing : SoloLaw soloClosing where
  baseline l := by cases l <;> decide
  held g m h := by cases g <;> cases h; rfl
  standing g m h _ := by cases g <;> cases h; decide
  fired g m h _ _ _ := by cases g <;> cases h; decide

theorem witness_frame_boundary_measured :
    FiringLaw soloClosing ∧ SoloLaw soloClosing ∧ qualified crossing soloClosing = true
      ∧ endsFrame crossing soloClosing = true ∧ soloClosing.svc.pattern = .none
      ∧ (∃ m, finalMeasurement crossing soloClosing .a = some m ∧ stands soloClosing m = true ∧ m.load = .ring)
      ∧ finalMeasurement crossing soloClosing .b = .none
      ∧ legOverloaded { crossing with ampsA := 16741 } soloClosing .a = false
      ∧ legOverloaded { crossing with ampsA := 16742 } soloClosing .a = true :=
  ⟨firing_soloClosing, solo_soloClosing, by decide, by decide, by decide, ⟨_, rfl, by decide, by decide⟩, by decide, by decide,
   by decide⟩

/-- R32, R33, R41: an overload at the end of slot 15 raises its notice, and the boundary removes OVERLOAD. -/
theorem test_overload_at_the_boundary :
    (let t := after (.frameBoundary { crossing with ampsA := 16742 }) soloClosing
     (t.lif.notices.overload, (load t .ring).mask.overload, (load t .ring).verifyDue, t.par.frame.slot))
      = (true, false, true, 0) := by decide

/-- The roast with GRILL on leg A as well, so that RING and GRILL share a capacity of 3350 W. -/
def sharing : State :=
  { cooking with
    ldt := { cooking.ldt with
      loads :=
        (cooking.ldt.loads.set .grill
          { cooking.ldt.loads.grill with demand := 9, leg := .a, verifyDue := true, mask := {} }).set .ring
          { cooking.ldt.loads.ring with demand := 10, verifyDue := true } } }

theorem list_sharing : ListLaw sharing where
  own_class l := by cases l <;> decide
  once c hc l := by interval_cases c <;> cases l <;> decide
  placement := list_cooking.placement

theorem witness_schedule_short :
    ListLaw sharing ∧ soloClaims sharing .a = [.ring, .grill] ∧ eligible sharing .grill = true
      ∧ quantaIn (schedule sharing) .ring = 10 ∧ quantaIn (schedule sharing) .grill = 6
      ∧ (soloOn (slotOf (schedule sharing) 15) .a).isNone = true
      ∧ (slotOf (schedule sharing) 4).placed.get .grill = false ∧ (slotOf (schedule sharing) 15).placed.get .ring = false :=
  ⟨list_sharing, by decide, by decide, by decide, by decide, by decide, by decide, by decide⟩

/-- R52: the due loads of a leg have the first places of the placement order, slots 0 and 8. -/
theorem test_solo_slots_in_order :
    (soloOn (slotOf (schedule sharing) 0) .a, soloOn (slotOf (schedule sharing) 8) .a) = (some .ring, some .grill) := by decide

theorem witness_drain_step_credited :
    ScaleLaw (descalingAt 4 .draining .drain) ∧ ScaleLaw (descalingAt 8 .draining .drain)
      ∧ ScaleLaw (descalingAt 2 .draining (.fill .descaler)) :=
  ⟨by constructor <;> decide, by constructor <;> decide, by constructor <;> decide⟩

/-- Table 6.7, position 4: the drain of a full soak clears the account while the program goes on. -/
theorem test_descale_credit :
    (let s := descalingAt 4 .draining .drain
     let t := after .drainComplete { s with
       sgc := { s.sgc with soakedS := some 1500 }
       sca := { s.sca with scaleMg := 6100, stage := .lock, rinseDue := true } }
     (t.sca.scaleMg, t.sca.stage, t.sca.rinseDue, t.run.position)) = (0, .clear, true, some 5) := by decide

theorem witness_init_fan :
    Hears (roastAt (at_ 601)) ∧ PauseLaw (roastAt (at_ 601)) ∧ (roastAt (at_ 601)).dlu.door ≠ .opened
      ∧ (∃ T, (roastAt (at_ 601)).msu.cavity.filtered = some T ∧ 600 < T)
      ∧ (∀ T, (roastAt (at_ 600)).msu.cavity.filtered = some T → T ≤ 600) ∧ ovenMode (roastAt (at_ 601)) = .running :=
  ⟨hears_cooking, pauseLaw_congr (s := cooking) rfl rfl pause_cooking, by decide, ⟨601, rfl, by decide⟩,
   fun T h => by cases h; decide, by decide⟩

theorem witness_load_refused :
    4 < (5 : Byte).toNat ∧ (5 : Byte) ≠ 0xFF ∧ 1 < (2 : Byte).toNat ∧ ovenMode standby = .standby ∧ Hears standby
      ∧ ovenMode service = .service ∧ Hears service :=
  ⟨by decide, by decide, by decide, by decide, ⟨by decide, by decide⟩, by decide, hears_service⟩

theorem witness_second_cause :
    (let s (a : Analog) : State := { standby with
       msu := { standby.msu with cavity := a }, dlu := { standby.dlu with latch := true, causeSensor := true } }
     currentStep (s (at_ 3001)) = .none ∧ validRaw .cavity 3001 = true ∧ (s (at_ 3001)).msu.cavity.fault = false
      ∧ (after (.analogSample .cavity 3001) (s (at_ 3001))).msu.cavity.filtered = some 3001
      ∧ (s (cavityAt true 0 2)).msu.cavity.fault = true ∧ 2 ≤ (s (cavityAt true 0 2)).msu.cavity.goodRun
      ∧ 2 ≤ (s (cavityAt false 2 0)).msu.cavity.badRun ∧ validRaw .cavity 4001 = false) := by decide

/-- R170: a sample above 300.0 °C adds LIMIT while the latch is set, and FAULT_MODE is not raised again. -/
theorem test_second_cause :
    (let t := after (.analogSample .cavity 3001)
       { standby with
         msu := { standby.msu with cavity := at_ 3001 }, dlu := { standby.dlu with latch := true, causeSensor := true } }
     (t.dlu.causeLimit, t.dlu.causeSensor, t.lif.notices.faultMode)) = (true, true, false) := by decide

/-! ## The points of the logs, one step each -/

/-- R2, log 30. -/
theorem test_invalid_raw_is_not_stored :
    (after (.analogSample .cavity 4001) (roastAt (at_ 1800))).msu.cavity.raw = 1800 := by decide

/-- R27, log 31: RING was withdrawn earlier in the frame, and its solo slot's measurement is void as it opens. -/
theorem test_withdrawn_load_is_not_measured :
    (let s := { slotEnding 0 with
       ldt := { (slotEnding 0).ldt with
         loads := cooking.ldt.loads.set .ring { cooking.ldt.loads.ring with on := false }, measA := .none }
       par := { (slotEnding 0).par with frame := { (slotEnding 0).par.frame with
         grid := ringSlot false :: ringSlot true :: [], withdrawn := (PerLoad.of fun _ => false).set .ring true } } }
     (after (.slotEnd crossing) s).ldt.measA.map fun m => m.void) = some true := by decide

/-- R13: the fault-cleared event takes STANDING to HEATING, and the sample event of the same sample is taken there. -/
theorem test_cleared_fault_is_judged_first :
    (let t (raw : Int) := after (.analogSample .boiler raw) (clearing .none)
     ((t 979).sgc.state, (t 980).sgc.state != .heating, (t 1301).sgc.state)) = (.heating, true, .fault) := by decide

/-- Table 10.7: a humidity preview is one byte and its flag. -/
theorem test_step_body_length : (stepBody stored 2 0 (.climate roast)).length = 44 := by decide

/-- Table 6.7: the fill of DESCALE's third step ends, and the soak begins. -/
theorem test_fill_step_ends :
    (let t := after (.electrodeSample .wet .wet) (descalingAt 2 .filling (.fill .descaler))
     (t.run.position, t.sgc.state, t.sgc.request)) = (some 3, .soaking, .soak 600) := by decide

end Sys2Proof.Tests
end

section
/-!
SUPPORT. What the steam generator and the scale account can do. `BoilerMove` lists the writes that their operations are made
of, and each operation is a chain of them, so a law that every such write keeps holds after the operation.
-/

namespace Sys2Proof.Machine

variable {s u v : State}

/-! ## The writes -/

/-- The counts and demands of a boiler record lie in their ranges (Table 5.1). -/
structure SteamRange (g : Sgc) : Prop where
  steam : g.share ≤ 16 ∧ g.humQuanta ≤ 16 ∧ g.demand ≤ 16
  boiler : g.fillTimer ≤ 90 ∧ g.heatCount ≤ 600 ∧ (∀ n, g.drainCount = some n → n ≤ 40)
    ∧ (∀ n, g.soakedS = some n → n ≤ 65535)

theorem RangeLaw.steamRange (h : RangeLaw s) : SteamRange s.sgc := ⟨h.steam, h.boiler⟩

/-- What the climate controller last handed over (R72, R73). -/
def handed (g : Sgc) : Nat × Nat × Bool := (g.share, g.humQuanta, g.needsSteam)

/-- One write of the steam generator or the scale account. -/
inductive BoilerMove : State → State → Prop
  | sgc {s : State} (g : Sgc) (hand : handed g = handed s.sgc) (range : SteamRange s.sgc → SteamRange g) :
      BoilerMove s { s with sgc := g }
  | sca {s : State} (a : Sca) (fixed : fixedSca a = fixedSca s.sca) : BoilerMove s { s with sca := a }
  | degraded {s : State} (b : Bool) : BoilerMove s { s with run := { s.run with degraded := b } }
  | notice {s : State} (k : Notice) : BoilerMove s (raise k s)
  | reason {s : State} (r : Reason) (own : boilerReason r = true) (b : Bool) : BoilerMove s (putReason b r .boiler s)
  | demand {s : State} (n : Nat) (mode : ovenMode s ≠ .service) (range : SteamRange s.sgc → n ≤ 16) :
      BoilerMove s (setDemand n .boiler s)
  | pumps {s : State} (feed drain : Bool) :
      BoilerMove s (setAux { s.ldt.aux with feedPump := feed, drainPump := drain } s)

/-- A chain of writes of the steam generator and the scale account. -/
def BoilerMoves : State → State → Prop := Relation.ReflTransGen BoilerMove

theorem BoilerMoves.refl : BoilerMoves s s := Relation.ReflTransGen.refl

theorem BoilerMoves.tail (h : BoilerMoves s u) (m : BoilerMove u v) : BoilerMoves s v := Relation.ReflTransGen.tail h m

theorem BoilerMoves.trans (h : BoilerMoves s u) (k : BoilerMoves u v) : BoilerMoves s v := Relation.ReflTransGen.trans h k

/-- What every write keeps, a chain of writes keeps. -/
theorem BoilerMoves.keeps {P : State → Prop} (keep : ∀ s t, BoilerMove s t → P s → P t) (h : BoilerMoves s u) (hs : P s) :
    P u := by
  induction h with
  | refl => exact hs
  | tail _ m ih => exact keep _ _ m ih

theorem boiler_ite {p : Prop} [Decidable p] (ht : BoilerMoves s u) (hf : BoilerMoves s v) :
    BoilerMoves s (if p then u else v) := by
  split
  · exact ht
  · exact hf

theorem boiler_sgc (h : BoilerMoves s u) (g : Sgc) (range : SteamRange u.sgc → SteamRange g)
    (hand : handed g = handed u.sgc := by rfl) : BoilerMoves s { u with sgc := g } := h.tail (.sgc g hand range)

/-- A write that keeps the counts and what has been handed over. -/
theorem boiler_record (h : BoilerMoves s u) (g : Sgc) (hand : handed g = handed u.sgc := by rfl)
    (counts : (g.demand, g.fillTimer, g.heatCount, g.drainCount, g.soakedS)
      = (u.sgc.demand, u.sgc.fillTimer, u.sgc.heatCount, u.sgc.drainCount, u.sgc.soakedS) := by rfl) :
    BoilerMoves s { u with sgc := g } := by
  refine boiler_sgc h g (hand := hand) fun ⟨steam, boiler⟩ => ?_
  simp only [handed, Prod.mk.injEq] at hand counts
  obtain ⟨hs, hq, -⟩ := hand
  obtain ⟨hd, hf, hh, hn, hk⟩ := counts
  exact ⟨by rwa [hs, hq, hd], by rwa [hf, hh, hn, hk]⟩

/-- A write of the content record: the soak count is absent or 0. -/
theorem boiler_content (h : BoilerMoves s u) (g : Sgc) (soak : ∀ n, g.soakedS = some n → n = 0)
    (hand : handed g = handed u.sgc := by rfl)
    (counts : (g.demand, g.fillTimer, g.heatCount, g.drainCount)
      = (u.sgc.demand, u.sgc.fillTimer, u.sgc.heatCount, u.sgc.drainCount) := by rfl) :
    BoilerMoves s { u with sgc := g } := by
  refine boiler_sgc h g (hand := hand) fun ⟨steam, boiler⟩ => ?_
  simp only [handed, Prod.mk.injEq] at hand counts
  obtain ⟨hs, hq, -⟩ := hand
  obtain ⟨hd, hf, hh, hn⟩ := counts
  exact ⟨by rwa [hs, hq, hd], by rw [hf]; exact boiler.1, by rw [hh]; exact boiler.2.1, by rw [hn]; exact boiler.2.2.1,
    fun n e => by rw [soak n e]; omega⟩

theorem boiler_sca (h : BoilerMoves s u) (a : Sca) (fixed : fixedSca a = fixedSca u.sca := by rfl) :
    BoilerMoves s { u with sca := a } := h.tail (.sca a fixed)

theorem boiler_raise (h : BoilerMoves s u) (k : Notice) : BoilerMoves s (raise k u) := h.tail (.notice k)

theorem boiler_putReason (h : BoilerMoves s u) {r : Reason} (own : boilerReason r = true) (b : Bool) :
    BoilerMoves s (putReason b r .boiler u) := h.tail (.reason r own b)

theorem boiler_setPumps (h : BoilerMoves s u) (b : BoilerState) : BoilerMoves s (setPumps b u) := h.tail (.pumps _ _)

/-! ## The scale account -/

theorem boiler_judgeDegraded (h : BoilerMoves s u) : BoilerMoves s (judgeDegraded u) := by
  unfold judgeDegraded
  split
  · exact h.tail (.degraded true)
  · exact h

theorem boiler_evalScaleMask (h : BoilerMoves s u) : BoilerMoves s (evalScaleMask u) := boiler_putReason h rfl _

theorem boiler_raiseStages (h : BoilerMoves s u) (old new : Stage) : BoilerMoves s (raiseStages old new u) := by
  unfold raiseStages
  dsimp only
  repeat' split
  all_goals apply_rules [boiler_raise]

theorem boiler_deriveStage (h : BoilerMoves s u) : BoilerMoves s (deriveStage u) := by
  unfold deriveStage
  dsimp only
  split
  · exact h
  · exact boiler_judgeDegraded (boiler_evalScaleMask (boiler_raiseStages (boiler_sca h _) _ _))

theorem boiler_takeDeposit (h : BoilerMoves s u) : BoilerMoves s (takeDeposit u) := boiler_deriveStage (boiler_sca h _)

theorem boiler_takeFillStart (h : BoilerMoves s u) (c : FillContent) : BoilerMoves s (takeFillStart c u) := by
  cases c with
  | water => exact h
  | descaler => exact boiler_judgeDegraded (boiler_sca h _)

theorem boiler_takeDrain (h : BoilerMoves s u) : BoilerMoves s (takeDrain u) := by
  unfold takeDrain
  dsimp only
  split
  · exact boiler_deriveStage (boiler_sca h _)
  · split
    · exact boiler_sca h _
    · exact h

/-! ## The BOILER demand -/

theorem boilerDemand_le (h : SteamRange s.sgc) : boilerDemand s ≤ 16 := by
  obtain ⟨⟨share, hum, -⟩, -⟩ := h
  have hold (p : Prior) : hotDemand s p ≤ 16 := by
    cases p <;> simp only [hotDemand, steamDemand] <;> split <;> omega
  have raw : rawBoilerDemand s ≤ 16 := by
    unfold rawBoilerDemand
    split <;> first | exact hold _ | omega | (split <;> omega)
  unfold boilerDemand
  split
  · exact (min_le_right _ _).trans raw
  · exact raw

theorem boiler_formDemand (h : BoilerMoves s u) : BoilerMoves s (formDemand u) := by
  have hd : BoilerMoves s { u with sgc := { u.sgc with demand := boilerDemand u } } :=
    boiler_sgc h _ fun r => ⟨⟨r.steam.1, r.steam.2.1, boilerDemand_le r⟩, r.boiler⟩
  unfold formDemand
  dsimp only
  split
  · exact hd
  · exact hd.tail (.demand _ ‹_› fun r => r.steam.2.2)

/-! ## The boiler states -/

theorem boiler_setBoilerReasons (h : BoilerMoves s u) (b : BoilerState) : BoilerMoves s (setBoilerReasons b u) :=
  boiler_putReason (boiler_putReason h rfl _) rfl _

theorem boiler_enterBoiler (h : BoilerMoves s u) (b : BoilerState) : BoilerMoves s (enterBoiler b u) := by
  unfold enterBoiler
  dsimp only
  refine boiler_formDemand (boiler_judgeDegraded (boiler_setBoilerReasons (boiler_setPumps (boiler_sgc h _ ?_) _) _))
  intro ⟨steam, fill, heat, drain, soak⟩
  refine ⟨steam, ?_, ?_, ?_, soak⟩
  · dsimp only; split <;> omega
  · dsimp only; split <;> omega
  · intro n hn
    dsimp only at hn
    split at hn <;> simp at hn
    omega

theorem boiler_setPurpose (h : BoilerMoves s u) (p : Purpose) : BoilerMoves s (setPurpose p u) :=
  boiler_evalScaleMask (boiler_record h _)

theorem boiler_enterSoaking (h : BoilerMoves s u) (t : Int) : BoilerMoves s (enterSoaking t u) :=
  boiler_formDemand (boiler_record (boiler_enterBoiler (boiler_record h _) _) _)

theorem boiler_judgeStanding (h : BoilerMoves s u) : BoilerMoves s (judgeStanding u) := by
  unfold judgeStanding
  repeat' split
  all_goals apply_rules [boiler_enterBoiler, boiler_setPurpose, boiler_enterSoaking]

theorem boiler_endFill (h : BoilerMoves s u) : BoilerMoves s (endFill u) := by
  unfold endFill
  refine boiler_judgeStanding (boiler_enterBoiler ?_ _)
  dsimp only
  repeat' split
  all_goals first | exact h | exact boiler_record h _

theorem boiler_startFill (h : BoilerMoves s u) (c : FillContent) (p : Purpose) (content : Content) (soaked : Option Nat)
    (soak : ∀ n, soaked = some n → n = 0) :
    BoilerMoves s (takeFillStart c (enterBoiler .filling
      (setPurpose p { u with sgc := { u.sgc with content := content, soakedS := soaked } }))) :=
  boiler_takeFillStart (boiler_enterBoiler (boiler_setPurpose (boiler_content h _ soak) _) _) _

theorem boiler_beginFill (h : BoilerMoves s u) (c : FillContent) (p : Purpose) : BoilerMoves s (beginFill c p u) := by
  have soak (n : Nat) (hn : (if c = .descaler ∨ p = .rinse then some 0 else none) = some n) : n = 0 := by
    split at hn <;> simp at hn
    exact hn.symm
  exact boiler_ite (boiler_endFill (boiler_startFill h c p _ _ soak)) (boiler_startFill h c p _ _ soak)

theorem boiler_judgeEmpty (h : BoilerMoves s u) : BoilerMoves s (judgeEmpty u) := by
  unfold judgeEmpty
  repeat' split
  all_goals apply_rules [boiler_beginFill]

theorem boiler_judgeHot (h : BoilerMoves s u) : BoilerMoves s (judgeHot u) := by
  unfold judgeHot
  repeat' split
  all_goals apply_rules [boiler_enterBoiler, boiler_enterSoaking]

theorem boiler_judgeHeating (h : BoilerMoves s u) : BoilerMoves s (judgeHeating u) := by
  unfold judgeHeating
  repeat' split
  all_goals apply_rules [boiler_enterBoiler, boiler_enterSoaking]

theorem boiler_judgeRefilling (h : BoilerMoves s u) : BoilerMoves s (judgeRefilling u) := boiler_record h _

theorem boiler_judgeBoiler (h : BoilerMoves s u) : BoilerMoves s (judgeBoiler u) := by
  unfold judgeBoiler
  refine boiler_formDemand ?_
  split
  all_goals
    apply_rules [boiler_judgeEmpty, boiler_judgeStanding, boiler_judgeHeating, boiler_judgeHot, boiler_judgeRefilling]

theorem boiler_serveDrain (h : BoilerMoves s u) : BoilerMoves s (serveDrain u) := boiler_ite (boiler_record h _) h

theorem boiler_takeRequest (h : BoilerMoves s u) (r : StepRequest) : BoilerMoves s (takeRequest r u) := by
  have taken : BoilerMoves s { u with sgc := { u.sgc with request := r, served := false } } := boiler_record h _
  unfold takeRequest
  dsimp only at taken ⊢
  generalize State.mk u.msu u.ldt u.par u.clc _ u.sca u.pst u.run u.dlu u.lif u.svc u.pending = w at taken ⊢
  have judged := boiler_judgeBoiler taken
  have entered (b : BoilerState) := boiler_enterBoiler taken b
  generalize u.sgc.state = b
  cases r with
  | none =>
    cases b
    case soaking => exact boiler_judgeBoiler (entered .standing)
    all_goals exact judged
  | fill c =>
    cases b
    case empty | draining | fault => exact judged
    all_goals exact entered .draining
  | soak t =>
    cases b
    case soaking => exact boiler_enterSoaking taken t
    all_goals exact judged
  | drain =>
    cases b
    case empty => exact boiler_judgeBoiler (boiler_serveDrain taken)
    case draining | fault => exact taken
    all_goals exact entered .draining

theorem boiler_clearTank (h : BoilerMoves s u) : BoilerMoves s (clearTank u) :=
  boiler_judgeBoiler (boiler_record h _)

theorem boiler_evalLookAhead (h : BoilerMoves s u) : BoilerMoves s (evalLookAhead u) :=
  boiler_judgeBoiler (boiler_record h _)

theorem boiler_endRefill (h : BoilerMoves s u) : BoilerMoves s (endRefill u) :=
  boiler_judgeBoiler (boiler_enterBoiler h _)

theorem boiler_markTankEmpty (h : BoilerMoves s u) : BoilerMoves s (markTankEmpty u) :=
  boiler_raise (boiler_record h _) _

theorem boiler_clearContent (h : BoilerMoves s u) : BoilerMoves s (clearContent u) :=
  boiler_setPurpose (boiler_content h _ (by simp)) _

theorem boiler_fillTimesOut (h : BoilerMoves s u) : BoilerMoves s (fillTimesOut u) := by
  have marked := boiler_markTankEmpty h
  have ends {w : State} (hw : BoilerMoves s w) : BoilerMoves s
      (if w.msu.low.reported = .dry then enterBoiler .empty (clearContent w) else enterBoiler .draining w) :=
    boiler_ite (boiler_enterBoiler (boiler_clearContent hw) _) (boiler_enterBoiler hw _)
  unfold fillTimesOut
  refine ends ?_
  dsimp only
  cases (markTankEmpty u).sgc.request
  case fill => exact boiler_record marked _
  all_goals exact marked

theorem boiler_refillTimesOut (h : BoilerMoves s u) : BoilerMoves s (refillTimesOut u) :=
  boiler_enterBoiler (boiler_markTankEmpty h) _

theorem boiler_drainCompletes (h : BoilerMoves s u) : BoilerMoves s (drainCompletes u) :=
  boiler_judgeBoiler (boiler_serveDrain (boiler_enterBoiler (boiler_clearContent
    (boiler_takeDrain (h.tail (.pumps u.ldt.aux.feedPump false)))) _))

theorem boiler_boilerFaults (h : BoilerMoves s u) : BoilerMoves s (boilerFaults u) := boiler_raise (boiler_enterBoiler h _) _

theorem boiler_lowFallsDry (h : BoilerMoves s u) : BoilerMoves s (lowFallsDry u) := by
  have evaporates (p : Prior) : BoilerMoves s
      (judgeBoiler (takeDeposit (enterBoiler .refilling { u with sgc := { u.sgc with prior := some p } }))) :=
    boiler_judgeBoiler (boiler_takeDeposit (boiler_enterBoiler (boiler_record h _) _))
  have counts : BoilerMoves s { u with sgc := { u.sgc with drainCount := some (u.sgc.drainCount.getD 0) } } := by
    refine boiler_sgc h _ fun ⟨steam, fill, heat, drain, soak⟩ => ⟨steam, fill, heat, fun n hn => ?_, soak⟩
    cases hc : u.sgc.drainCount with
    | none => simp [hc] at hn; omega
    | some k => simp [hc] at hn; exact hn ▸ drain k hc
  unfold lowFallsDry
  cases u.sgc.state
  case ready => exact evaporates .ready
  case steaming => exact evaporates .steaming
  case draining => exact counts
  all_goals exact h

theorem boiler_drainUnknown (h : BoilerMoves s u) : BoilerMoves s (drainUnknown u) :=
  boiler_enterBoiler (boiler_setPurpose (boiler_content h _ (by simp)) _) _

theorem boiler_lowRisesWet (h : BoilerMoves s u) : BoilerMoves s (lowRisesWet u) := by
  unfold lowRisesWet
  split
  · exact boiler_drainUnknown h
  · exact h

theorem boiler_highRisesWet (h : BoilerMoves s u) : BoilerMoves s (highRisesWet u) := by
  unfold highRisesWet
  split
  all_goals apply_rules [boiler_endFill, boiler_endRefill]

theorem boiler_boilerSample (h : BoilerMoves s u) (t : Int) : BoilerMoves s (boilerSample t u) := by
  have thermostat (on : Bool) : BoilerMoves s (formDemand { u with sgc := { u.sgc with thermostat := on } }) :=
    boiler_formDemand (boiler_record h _)
  unfold boilerSample
  split
  · exact boiler_boilerFaults h
  · cases u.sgc.state
    case heating => exact boiler_ite (boiler_judgeBoiler (boiler_enterBoiler h _)) h
    case soaking =>
      dsimp only
      split
      · exact thermostat _
      · exact h
    case standing => exact boiler_judgeBoiler h
    case ready | steaming | refilling => exact thermostat _
    all_goals exact h

theorem boiler_boilerChannelFaults (h : BoilerMoves s u) : BoilerMoves s (boilerChannelFaults u) := by
  unfold boilerChannelFaults
  split
  · exact boiler_boilerFaults h
  · exact h

theorem boiler_boilerChannelClears (h : BoilerMoves s u) : BoilerMoves s (boilerChannelClears u) := by
  unfold boilerChannelClears
  split
  · exact boiler_judgeBoiler h
  · exact h

theorem boiler_deriveAndHand (h : BoilerMoves s u) : BoilerMoves s (deriveAndHand u) := by
  unfold deriveAndHand
  dsimp only
  split
  · exact boiler_deriveStage h
  · exact boiler_judgeBoiler (boiler_deriveStage h)

end Sys2Proof.Machine
end

section
/-!
SUPPORT. What the run engine, the door and limit unit and the climate controller can write. `Write` lists their writes
beside the boiler's, each operation is a chain of them, and the laws of the load table, the arbiter and the configuration
hold after each write.
-/

namespace Sys2Proof.Machine

variable {s t u v : State}

/-! ## The auxiliary outputs -/

@[simp] theorem setAux_msu (a : Aux) (s : State) : (setAux a s).msu = s.msu := by unfold setAux; split <;> rfl
@[simp] theorem setAux_par (a : Aux) (s : State) : (setAux a s).par = s.par := by unfold setAux; split <;> rfl
@[simp] theorem setAux_clc (a : Aux) (s : State) : (setAux a s).clc = s.clc := by unfold setAux; split <;> rfl
@[simp] theorem setAux_sgc (a : Aux) (s : State) : (setAux a s).sgc = s.sgc := by unfold setAux; split <;> rfl
@[simp] theorem setAux_sca (a : Aux) (s : State) : (setAux a s).sca = s.sca := by unfold setAux; split <;> rfl
@[simp] theorem setAux_pst (a : Aux) (s : State) : (setAux a s).pst = s.pst := by unfold setAux; split <;> rfl
@[simp] theorem setAux_run (a : Aux) (s : State) : (setAux a s).run = s.run := by unfold setAux; split <;> rfl
@[simp] theorem setAux_dlu (a : Aux) (s : State) : (setAux a s).dlu = s.dlu := by unfold setAux; split <;> rfl
@[simp] theorem setAux_lif (a : Aux) (s : State) : (setAux a s).lif = s.lif := by unfold setAux; split <;> rfl
@[simp] theorem setAux_svc (a : Aux) (s : State) : (setAux a s).svc = s.svc := by unfold setAux; split <;> rfl
@[simp] theorem setAux_pending (a : Aux) (s : State) : (setAux a s).pending = s.pending := by unfold setAux; split <;> rfl
@[simp] theorem setAux_aux (a : Aux) (s : State) : (setAux a s).ldt.aux = a := by
  unfold setAux
  split
  · assumption
  · rfl
@[simp] theorem load_setAux (a : Aux) (s : State) (l : LoadId) : load (setAux a s) l = load s l := by
  unfold setAux; split <;> rfl

/-! ## The writes -/

/-- The counts and demands, and the configuration that bounds them, lie in their ranges. -/
def Bounded (s : State) : Prop := RangeLaw s ∧ ConfigLaw s

/-- The weights and the loop values of a climate controller lie in their ranges. -/
structure ClimateRange (c : Clc) : Prop where
  entry : c.climate.entry.top ≤ 100 ∧ c.climate.entry.bottom ≤ 100 ∧ c.climate.entry.ring ≤ 100
    ∧ c.climate.entry.grill ≤ 100 ∧ c.climate.entry.boiler ≤ 100
  loops : c.heat ≤ 1000 ∧ c.integral ≤ 16000 ∧ c.humid ≤ 1000

/-- The counts of a run record lie in their ranges. -/
def RunRange (r : Run) : Prop := r.elapsedS ≤ 65535 ∧ r.totalS ≤ 65535 ∧ r.holdS ≤ 3600

/-- One write of the blocks that a run or a door event reaches. -/
inductive Write : State → State → Prop
  | boiler {s t : State} (m : BoilerMove s t) : Write s t
  | reason {s : State} (r : Reason) (supply : r ≠ .supply) (health : r ≠ .health) (b : Bool) (l : LoadId) :
      Write s (putReason b r l s)
  | demand {s : State} (n : Nat) (l : LoadId) (range : Bounded s → n ≤ 16) : Write s (setDemand n l s)
  | aux {s : State} (a : Aux) : Write s (setAux a s)
  | clc {s : State} (c : Clc) (fixed : (c.table, c.loop) = (s.clc.table, s.clc.loop))
      (range : Bounded s → ClimateRange c) : Write s { s with clc := c }
  | sgc {s : State} (g : Sgc) (range : Bounded s → SteamRange g) : Write s { s with sgc := g }
  | run {s : State} (r : Run) (range : RunRange s.run → RunRange r) : Write s { s with run := r }
  | dlu {s : State} (d : Dlu) (fixed : (d.input, d.debounce) = (s.dlu.input, s.dlu.debounce)) :
      Write s { s with dlu := d }
  | lif {s : State} (f : Lif) (fixed : fixedLif f = fixedLif s.lif) : Write s { s with lif := f }

/-- A chain of writes. -/
def Writes : State → State → Prop := Relation.ReflTransGen Write

theorem Writes.refl : Writes s s := Relation.ReflTransGen.refl

theorem Writes.tail (h : Writes s u) (m : Write u v) : Writes s v := Relation.ReflTransGen.tail h m

theorem Writes.trans (h : Writes s u) (k : Writes u v) : Writes s v := Relation.ReflTransGen.trans h k

/-- What every write keeps, a chain of writes keeps. -/
theorem Writes.keeps {P : State → Prop} (keep : ∀ s t, Write s t → P s → P t) (h : Writes s u) (hs : P s) : P u := by
  induction h with
  | refl => exact hs
  | tail _ m ih => exact keep _ _ m ih

theorem Writes.boiler (h : Writes s u) (k : BoilerMoves u v) : Writes s v := by
  induction k with
  | refl => exact h
  | tail _ m ih => exact ih.tail (.boiler m)

theorem writes_ite {p : Prop} [Decidable p] (ht : Writes s u) (hf : Writes s v) : Writes s (if p then u else v) := by
  split
  · exact ht
  · exact hf

theorem writes_putReason (h : Writes s u) {r : Reason} (supply : r ≠ .supply) (health : r ≠ .health) (b : Bool) (l : LoadId) :
    Writes s (putReason b r l u) := h.tail (.reason r supply health b l)

theorem writes_addReasonTo (h : Writes s u) {r : Reason} (supply : r ≠ .supply) (health : r ≠ .health) (ls : List LoadId) :
    Writes s (addReasonTo r ls u) := by
  induction ls generalizing u with
  | nil => exact h
  | cons l ls ih => exact ih (writes_putReason h supply health true l)

theorem writes_removeReasonFrom (h : Writes s u) {r : Reason} (supply : r ≠ .supply) (health : r ≠ .health)
    (ls : List LoadId) : Writes s (removeReasonFrom r ls u) := by
  induction ls generalizing u with
  | nil => exact h
  | cons l ls ih => exact ih (writes_putReason h supply health false l)

theorem writes_demand (h : Writes s u) (n : Nat) (l : LoadId) (range : Bounded u → n ≤ 16) : Writes s (setDemand n l u) :=
  h.tail (.demand n l range)

theorem writes_setAux (h : Writes s u) (a : Aux) : Writes s (setAux a u) := h.tail (.aux a)

theorem writes_clc (h : Writes s u) (c : Clc) (range : Bounded u → ClimateRange c)
    (fixed : (c.table, c.loop) = (u.clc.table, u.clc.loop) := by rfl) : Writes s { u with clc := c } :=
  h.tail (.clc c fixed range)

theorem writes_sgc (h : Writes s u) (g : Sgc) (range : Bounded u → SteamRange g) : Writes s { u with sgc := g } :=
  h.tail (.sgc g range)

theorem writes_run (h : Writes s u) (r : Run) (range : RunRange u.run → RunRange r) : Writes s { u with run := r } :=
  h.tail (.run r range)

theorem writes_dlu (h : Writes s u) (d : Dlu)
    (fixed : (d.input, d.debounce) = (u.dlu.input, u.dlu.debounce) := by rfl) : Writes s { u with dlu := d } :=
  h.tail (.dlu d fixed)

theorem writes_lif (h : Writes s u) (f : Lif) (fixed : fixedLif f = fixedLif u.lif := by rfl) :
    Writes s { u with lif := f } := h.tail (.lif f fixed)

/-- A write of the run record that keeps its counts. -/
theorem writes_runRecord (h : Writes s u) (r : Run)
    (counts : (r.elapsedS, r.totalS, r.holdS) = (u.run.elapsedS, u.run.totalS, u.run.holdS) := by rfl) :
    Writes s { u with run := r } := by
  refine writes_run h r fun range => ?_
  simp only [Prod.mk.injEq] at counts
  obtain ⟨he, ht, hh⟩ := counts
  rwa [RunRange, he, ht, hh]

theorem writes_raise (h : Writes s u) (k : Notice) : Writes s (raise k u) := writes_lif h _

theorem writes_evalFan (h : Writes s u) : Writes s (evalFan u) := writes_setAux h _

theorem writes_evalLamp (h : Writes s u) : Writes s (evalLamp u) := writes_setAux h _

theorem writes_noteMode (h : Writes s u) (m : OvenMode) : Writes s (noteMode m u) :=
  writes_ite h (writes_lif (writes_evalLamp h) _)

/-! ## The climate controller -/

theorem quantaOf_le {h w : Nat} (hh : h ≤ 1000) (hw : w ≤ 100) : quantaOf h w ≤ 16 := by
  have := Nat.mul_le_mul hh hw
  unfold quantaOf
  omega

theorem clamp_le {lo hi : Int} (h : lo ≤ hi) (x : Int) : clamp lo hi x ≤ hi := by
  unfold clamp; split_ifs <;> omega

theorem le_clamp {lo hi : Int} (h : lo ≤ hi) (x : Int) : lo ≤ clamp lo hi x := by
  unfold clamp; split_ifs <;> omega

theorem heatOf_le (raw : Int) : heatOf raw ≤ 1000 := by
  have := clamp_le (lo := 0) (hi := 1000) (by omega) raw
  unfold heatOf
  omega

theorem integralAfter_le (paused : Bool) (raw e : Int) (ki : Nat) {i16 : Nat} (h : i16 ≤ 16000) :
    integralAfter paused raw e (integralNext ki e i16) i16 ≤ 16000 := by
  have := clamp_le (lo := 0) (hi := 16000) (by omega) (i16 + (ki * e).tdiv 16)
  unfold integralAfter integralNext
  split_ifs <;> omega

theorem humQuantaOf_le {g : Nat} (h : g ≤ 1000) : humQuantaOf g ≤ 16 := by unfold humQuantaOf; omega

theorem humidDemand_le (ks : Nat) (humSet h : Int) : humidDemand ks humSet h ≤ 1000 := by
  have := clamp_le (lo := 0) (hi := 1000) (by omega) (ks * (humSet - h) * 10)
  unfold humidDemand
  omega

theorem humidUpdate_le (h : Bounded s) : humidUpdate s ≤ 1000 := by
  unfold humidUpdate
  dsimp only
  split
  · split
    · omega
    · split
      · exact h.1.loops.2.2
      · exact humidDemand_le ..
  · omega

/-- The weights of a heating mode entry are percentages (R62). -/
def WeightsOk (e : ModeEntry) : Prop :=
  e.top ≤ 100 ∧ e.bottom ≤ 100 ∧ e.ring ≤ 100 ∧ e.grill ≤ 100 ∧ e.boiler ≤ 100

theorem Bounded.weights (h : Bounded s) : WeightsOk s.clc.climate.entry := h.1.entry

theorem writes_writeDemands (h : Writes s u) (d : PerElement)
    (range : ∀ w, w.clc = u.clc → Bounded w → d.top ≤ 16 ∧ d.bottom ≤ 16 ∧ d.ring ≤ 16 ∧ d.grill ≤ 16) :
    Writes s (writeDemands d u) := by
  refine writes_ite h (writes_demand (writes_demand (writes_demand (writes_demand h _ _ ?_) _ _ ?_) _ _ ?_) _ _ ?_)
  all_goals
    intro b
    obtain ⟨top, bottom, ring, grill⟩ := range _ (by rfl) b
    assumption

theorem writes_applyHeat (h : Writes s u) {heat i16 : Nat} (hh : heat ≤ 1000) (hi : Bounded u → i16 ≤ 16000) :
    Writes s (applyHeat heat i16 u).1 := by
  refine writes_writeDemands (writes_clc h _ ?_) _ fun w e b => ?_
  · exact fun b => ⟨b.weights, hh, hi b, b.1.loops.2.2⟩
  · obtain ⟨top, bottom, ring, grill, -⟩ := b.weights
    rw [e] at top bottom ring grill
    exact ⟨quantaOf_le hh top, quantaOf_le hh bottom, quantaOf_le hh ring, quantaOf_le hh grill⟩

/-- All that the temperature loop of an update can do (R69, R71): nothing, with the boiler share as it was, or the heat and the
integral given by one of its cases, with the share of that heat. -/
theorem heatUpdate_cases (s : State) :
    heatUpdate s = (s, s.sgc.share) ∨ ∃ heat i16, heat ≤ 1000 ∧ (Bounded s → i16 ≤ 16000)
      ∧ heatUpdate s = applyHeat heat i16 s := by
  unfold heatUpdate
  dsimp only
  split
  · split
    · exact .inr ⟨0, _, by omega, fun b => b.1.loops.2.1, rfl⟩
    · split
      · exact .inl rfl
      · exact .inr ⟨_, _, heatOf_le _, fun b => integralAfter_le _ _ _ _ b.1.loops.2.1, rfl⟩
  · exact .inr ⟨0, 0, by omega, fun _ => by omega, rfl⟩

theorem writeDemands_clc (d : PerElement) (s : State) : (writeDemands d s).clc = s.clc := by
  unfold writeDemands; split <;> rfl

theorem writeDemands_sgc (d : PerElement) (s : State) : (writeDemands d s).sgc = s.sgc := by
  unfold writeDemands; split <;> rfl

theorem applyHeat_clc (heat i16 : Nat) (s : State) : (applyHeat heat i16 s).1.clc
    = { s.clc with heat := heat, integral := i16, demands := splitHeat heat s.clc.climate.entry } := writeDemands_clc ..

theorem applyHeat_sgc (heat i16 : Nat) (s : State) : (applyHeat heat i16 s).1.sgc = s.sgc := writeDemands_sgc ..

theorem applyHeat_share (heat i16 : Nat) (s : State) :
    (applyHeat heat i16 s).2 = quantaOf heat s.clc.climate.entry.boiler := rfl

theorem heatUpdate_climate (s : State) : (heatUpdate s).1.clc.climate = s.clc.climate := by
  obtain e | ⟨_, _, -, -, e⟩ := heatUpdate_cases s
  · rw [e]
  · rw [e, applyHeat_clc]

theorem heatUpdate_loopTimer (s : State) : (heatUpdate s).1.clc.loopTimer = s.clc.loopTimer := by
  obtain e | ⟨_, _, -, -, e⟩ := heatUpdate_cases s
  · rw [e]
  · rw [e, applyHeat_clc]

theorem heatUpdate_sgc (s : State) : (heatUpdate s).1.sgc = s.sgc := by
  obtain e | ⟨_, _, -, -, e⟩ := heatUpdate_cases s
  · rw [e]
  · rw [e, applyHeat_sgc]

theorem heatUpdate_share_le {w : State} (climate : w.clc.climate = s.clc.climate) (sgc : w.sgc = s.sgc) (b : Bounded w) :
    (heatUpdate s).2 ≤ 16 := by
  obtain e | ⟨heat, _, hh, -, e⟩ := heatUpdate_cases s
  · rw [e]; exact sgc ▸ b.1.steam.1
  · rw [e, applyHeat_share]; exact quantaOf_le hh (climate ▸ b.weights.2.2.2.2)

theorem writes_heatUpdate (h : Writes s u) : Writes s (heatUpdate u).1 := by
  obtain e | ⟨_, _, hh, hi, e⟩ := heatUpdate_cases u
  · rw [e]; exact h
  · rw [e]; exact writes_applyHeat h hh hi

theorem writes_handToBoiler (h : Writes s u) (share hum : Nat) (range : Bounded u → share ≤ 16 ∧ hum ≤ 16) :
    Writes s (handToBoiler share hum u) := by
  refine Writes.boiler (writes_sgc h _ ?_) (boiler_judgeBoiler .refl)
  exact fun b => ⟨⟨(range b).1, (range b).2, b.1.steam.2.2⟩, b.1.boiler⟩

theorem writes_loopUpdate (h : Writes s u) : Writes s (loopUpdate u) := by
  refine writes_handToBoiler (writes_setAux (writes_clc (writes_heatUpdate h) _ ?_) _) _ _ fun b => ⟨?_, ?_⟩
  · exact fun b => ⟨b.weights, b.1.loops.1, b.1.loops.2.1, humidUpdate_le b⟩
  · refine heatUpdate_share_le ?_ ?_ b
    · exact (congrArg Clc.climate (setAux_clc _ _)).trans (heatUpdate_climate u)
    · exact (setAux_sgc _ _).trans (heatUpdate_sgc u)
  · refine humQuantaOf_le (le_of_eq_of_le ?_ b.1.loops.2.2)
    rw [setAux_clc]

/-- A write of the climate controller that keeps its entry and its loop values. -/
theorem writes_climate (h : Writes s u) (c : Clc) (entry : c.climate.entry = u.clc.climate.entry := by rfl)
    (loops : (c.heat, c.integral, c.humid) = (u.clc.heat, u.clc.integral, u.clc.humid) := by rfl)
    (fixed : (c.table, c.loop) = (u.clc.table, u.clc.loop) := by rfl) : Writes s { u with clc := c } := by
  refine writes_clc h c (fixed := fixed) fun b => ?_
  simp only [Prod.mk.injEq] at loops
  obtain ⟨hh, hi, hg⟩ := loops
  exact ⟨by rw [entry]; exact b.1.entry, by rw [hh, hi, hg]; exact b.1.loops⟩

theorem writes_restartLoopTimer (h : Writes s u) : Writes s (restartLoopTimer u) := writes_climate h _

theorem writes_handOver (h : Writes s u) (c : Climate) (entry : Bounded u → WeightsOk c.entry) :
    Writes s (handOver c u) := by
  refine writes_evalFan (writes_restartLoopTimer (writes_loopUpdate (writes_ite (writes_setAux ?_ _) ?_)))
  all_goals
    refine writes_clc h _ fun b => ⟨entry b, b.1.loops.1, ?_, b.1.loops.2.2⟩
    dsimp only
    split
    · exact b.1.loops.2.1
    · omega

theorem weights_absent : WeightsOk Climate.absent.entry := by
  unfold WeightsOk
  decide

theorem weights_table (b : Bounded s) (i : Fin 8) : WeightsOk (s.clc.table[i]) := (b.2.entries i).2

theorem weights_hold (b : Bounded s) (k : Nat) : WeightsOk (holdClimate s k).entry := by
  obtain ⟨top, bottom, ring, grill, -⟩ := weights_table b 1
  exact ⟨top, bottom, ring, grill, by simp [holdClimate]⟩

theorem writes_moistureFaults (h : Writes s u) : Writes s (moistureFaults u) := by
  refine writes_ite (writes_handToBoiler (writes_clc h _ ?_) _ _ ?_) h
  · exact fun b => ⟨b.1.entry, b.1.loops.1, b.1.loops.2.1, (by decide : 500 ≤ 1000)⟩
  · exact fun b => ⟨b.1.steam.1, (by decide : humQuantaOf 500 ≤ 16)⟩

/-! ## The run engine's writes -/

theorem writes_setPause (h : Writes s u) (p : PauseSet) : Writes s (setPause p u) := by
  have hp : Writes s { u with run := { u.run with pause := p } } := writes_runRecord h _
  exact writes_ite (writes_addReasonTo hp (by decide) (by decide) _)
    (writes_ite (writes_removeReasonFrom hp (by decide) (by decide) _) hp)

theorem writes_addPause (h : Writes s u) (r : PauseReason) : Writes s (addPause r u) := writes_ite (writes_setPause h _) h

theorem writes_leavePause (h : Writes s u) (r : PauseReason) : Writes s (leavePause r u) :=
  writes_ite (writes_setPause h _) h

theorem writes_dropPause (h : Writes s u) (r : PauseReason) : Writes s (dropPause r u) :=
  writes_ite ((writes_leavePause h r).boiler (boiler_clearTank .refl)) (writes_leavePause h r)

theorem writes_latchStep (h : Writes s u) (st : Option Step) : Writes s (latchStep st u) := by
  unfold latchStep
  split <;> exact writes_runRecord h _

theorem writes_handRequest (h : Writes s u) (st : Option Step) : Writes s (handRequest st u) :=
  h.boiler (boiler_evalLookAhead (boiler_record (boiler_takeRequest .refl _) _))

theorem writes_handClimate (h : Writes s u) (st : Option Step) : Writes s (handClimate st u) := by
  unfold handClimate
  split
  · exact writes_handOver h _ fun b => weights_table b _
  all_goals exact h

theorem writes_loseProbe (h : Writes s u) : Writes s (loseProbe u) := writes_ite (writes_addPause h _) h

theorem writes_judgeStart (h : Writes s u) (st : Option Step) : Writes s (judgeStart st u) := by
  unfold judgeStart
  dsimp only
  refine Writes.boiler ?_ (boiler_judgeDegraded .refl)
  have waits := writes_ite (p := (st.map waitsForConfirm).getD false = true)
    (writes_runRecord h { u.run with state := .awaitConfirm, awaiting := some .step }) h
  exact writes_ite (writes_loseProbe waits) waits

theorem writes_beginStep (h : Writes s u) (pos : Nat) : Writes s (beginStep pos u) := by
  refine writes_judgeStart (writes_handClimate (writes_handRequest (writes_latchStep (writes_leavePause (writes_leavePause
    (writes_run h _ ?_) _) _) _) _) _) _
  exact fun r => ⟨Nat.zero_le _, r.2⟩

theorem writes_enterHolding (h : Writes s u) (k : Nat) : Writes s (enterHolding k u) := by
  refine writes_dropPause (writes_dropPause (Writes.boiler (writes_handOver (writes_run h _ ?_) _ ?_)
    (boiler_judgeBoiler (boiler_record .refl _))) _) _
  · exact fun r => ⟨r.1, r.2.1, Nat.zero_le _⟩
  · exact fun b => weights_hold b k

end Sys2Proof.Machine
end

section
/-!
SUPPORT. The laws that every write of a run or a door event keeps: the firing and the solo law, by what masking can do to a
load; the list, configuration and store laws, by the records that no such write touches; the mask law and the ranges.
-/

namespace Sys2Proof.Machine

variable {s t u : State}

/-! ## The firing and the solo law -/

/-- Every load that is on in `t` was on in `s` and may fire if it might before; every measurement of `t` is one of `s`, and one
that is not voided has a load that is as free to fire as it was and on if it was. -/
structure OnlyDims (s t : State) : Prop where
  frame : fixedFrame t.par.frame = fixedFrame s.par.frame
  on : ∀ l, (load t l).on = true → (load s l).on = true ∧ (mayFire s l = true → mayFire t l = true)
  meas : ∀ g m, legMeasurement t g = some m → ∃ k, legMeasurement s g = some k ∧ m.load = k.load ∧
    (m.void = false → k.void = false ∧ (mayFire s m.load = true → mayFire t m.load = true)
      ∧ ((load s m.load).on = true → (load t m.load).on = true))

theorem mayFire_iff {l : LoadId} :
    mayFire s l = true ↔ (load s l).mask.isEmpty = true ∧ s.par.frame.withdrawn.get l = false := by
  simp [mayFire]

theorem fixedFrame_eq {f g : Frame} (h : fixedFrame f = fixedFrame g) :
    f.state = g.state ∧ f.slot = g.slot ∧ f.half = g.half ∧ f.grid = g.grid ∧ f.inForce = g.inForce := by
  simpa only [fixedFrame, Prod.mk.injEq] using h

theorem OnlyDims.firing (d : OnlyDims s t) (h : FiringLaw s) : FiringLaw t := by
  obtain ⟨state, slot, -, grid, inForce⟩ := fixedFrame_eq d.frame
  refine ⟨fun l on => ?_, by rw [grid, inForce]; exact h.capacity, by rw [grid, inForce]; exact h.solo⟩
  obtain ⟨onS, fire⟩ := d.on l on
  obtain ⟨mask, withdrawn, firing, placed⟩ := h.on_allowed l onS
  obtain ⟨maskT, withdrawnT⟩ := mayFire_iff.1 (fire (mayFire_iff.2 ⟨mask, withdrawn⟩))
  exact ⟨maskT, withdrawnT, by rw [state, firing], by rw [grid, slot]; exact placed⟩

theorem OnlyDims.solo (d : OnlyDims s t) (h : SoloLaw s) : SoloLaw t := by
  obtain ⟨state, slot, half, grid, -⟩ := fixedFrame_eq d.frame
  refine ⟨fun l on solo => ?_, fun g m e => ?_, fun g m e v => ?_, fun g m e v firing past => ?_⟩
  · rw [half]
    exact h.baseline l (d.on l on).1 (by rwa [grid, slot] at solo)
  · obtain ⟨k, ek, same, -⟩ := d.meas g m e
    rw [grid, slot, same]
    exact h.held g k ek
  · obtain ⟨k, ek, same, keeps⟩ := d.meas g m e
    obtain ⟨void, fire, -⟩ := keeps v
    have stands := h.standing g k ek void
    rw [← same] at stands
    exact mayFire_iff.1 (fire (mayFire_iff.2 stands))
  · obtain ⟨k, ek, same, keeps⟩ := d.meas g m e
    obtain ⟨void, -, on⟩ := keeps v
    rw [state] at firing
    rw [half] at past
    exact on (same ▸ h.fired g k ek void firing past)

/-- A state with the same load table and frame dims nothing. -/
theorem OnlyDims.of_same (ldt : t.ldt = s.ldt) (par : t.par = s.par) : OnlyDims s t := by
  have hl (l : LoadId) : load t l = load s l := load_congr ldt l
  have hf (l : LoadId) : mayFire t l = mayFire s l := by simp only [mayFire, hl, par]
  have hm (g : Leg) : legMeasurement t g = legMeasurement s g := by cases g <;> simp only [legMeasurement, ldt]
  exact ⟨by rw [par], fun l on => ⟨by rwa [hl] at on, by rw [hf]; exact id⟩,
    fun g m e => ⟨m, by rwa [hm] at e, rfl, fun v => ⟨v, by rw [hf]; exact id, by rw [hl]; exact id⟩⟩⟩

@[simp] theorem legMeasurement_updLoad (f : Load → Load) (l : LoadId) (s : State) (g : Leg) :
    legMeasurement (updLoad f l s) g = legMeasurement s g := by cases g <;> rfl

/-- A load record may be rewritten where its switching stays and its mask stays or grows smaller. -/
theorem onlyDims_updLoad {f : Load → Load} {l : LoadId} (on : (f (load s l)).on = (load s l).on)
    (mask : (load s l).mask.isEmpty = true → (f (load s l)).mask.isEmpty = true) : OnlyDims s (updLoad f l s) := by
  have hon (k : LoadId) : (load (updLoad f l s) k).on = (load s k).on := by
    rw [load_updLoad]; split
    · subst k; exact on
    · rfl
  have hfire (k : LoadId) (h : mayFire s k = true) : mayFire (updLoad f l s) k = true := by
    rw [mayFire_iff] at h ⊢
    refine ⟨?_, h.2⟩
    rw [load_updLoad]; split
    · subst k; exact mask h.1
    · exact h.1
  exact ⟨rfl, fun k h => ⟨by rwa [hon] at h, hfire k⟩,
    fun g m e => ⟨m, by rwa [legMeasurement_updLoad] at e, rfl, fun v => ⟨v, hfire _, by rw [hon]; exact id⟩⟩⟩

theorem Mask.isEmpty_put_false {m : Mask} (r : Reason) (h : m.isEmpty = true) : (m.put r false).isEmpty = true := by
  rw [Mask.isEmpty_iff] at h ⊢
  intro q
  rw [Mask.has_put]
  split
  · rfl
  · exact h q

theorem onlyDims_removeReason (r : Reason) (l : LoadId) (s : State) : OnlyDims s (removeReason r l s) :=
  onlyDims_updLoad rfl (Mask.isEmpty_put_false r)

theorem withdraw_get (l k : LoadId) (s : State) (h : k ≠ l) :
    (withdraw l s).par.frame.withdrawn.get k = s.par.frame.withdrawn.get k := by
  unfold withdraw
  split
  · rfl
  all_goals exact PerLoad.get_set_other _ _ h

@[simp] theorem legMeasurement_withdraw (l : LoadId) (s : State) (g : Leg) :
    legMeasurement (withdraw l s) g = legMeasurement s g := by cases g <;> simp only [legMeasurement, withdraw_ldt]

theorem voidLoad_eq_some {l : LoadId} {o : Option Measurement} {m : Measurement} (h : voidLoad l o = some m) :
    ∃ k, o = some k ∧ m.load = k.load ∧ (m.void = false → k.void = false ∧ m.load ≠ l) := by
  cases o with
  | none => simp [voidLoad] at h
  | some k =>
    simp only [voidLoad, Option.some.injEq] at h
    subst h
    refine ⟨k, rfl, rfl, fun v => ?_⟩
    simpa using v

/-- An addition of a reason that was absent, as an update of the load, its measurements and the withdrawn set (R19, R27,
R57). -/
theorem legMeasurement_addReason {r : Reason} {l : LoadId} (absent : (load s l).mask.has r = false) (g : Leg) :
    legMeasurement (addReason r l s) g = voidLoad l (legMeasurement s g) := by
  unfold addReason
  rw [absent, if_neg Bool.false_ne_true, legMeasurement_withdraw]
  cases g <;> rfl

theorem addReason_of_has {r : Reason} {l : LoadId} (h : (load s l).mask.has r = true) : addReason r l s = s := if_pos h

theorem addReason_frame (r : Reason) (l : LoadId) (s : State) :
    fixedFrame (addReason r l s).par.frame = fixedFrame s.par.frame :=
  congrArg FixedView.frame (fixed_addReason r l s)

theorem addReason_withdrawn {r : Reason} {l k : LoadId} (h : k ≠ l) (s : State) :
    (addReason r l s).par.frame.withdrawn.get k = s.par.frame.withdrawn.get k := by
  unfold addReason
  split
  · rfl
  · exact withdraw_get l k _ h

theorem onlyDims_addReason (r : Reason) (l : LoadId) (s : State) : OnlyDims s (addReason r l s) := by
  by_cases has : (load s l).mask.has r = true
  · rw [addReason_of_has has]
    exact .of_same rfl rfl
  have absent : (load s l).mask.has r = false := by simpa using has
  have other {k : LoadId} (h : k ≠ l) : load (addReason r l s) k = load s k := by
    rw [load_addReason, if_neg fun e => h e.1]
  have fires {k : LoadId} (h : k ≠ l) (f : mayFire s k = true) : mayFire (addReason r l s) k = true := by
    rw [mayFire_iff] at f ⊢
    rw [other h, addReason_withdrawn h]
    exact f
  refine ⟨addReason_frame r l s, fun k on => ?_, fun g m e => ?_⟩
  · have h : k ≠ l := by
      rintro rfl
      rw [load_addReason, if_pos ⟨rfl, absent⟩] at on
      exact absurd on Bool.false_ne_true
    exact ⟨by rwa [other h] at on, fires h⟩
  · rw [legMeasurement_addReason absent] at e
    obtain ⟨k, ek, same, stands⟩ := voidLoad_eq_some e
    refine ⟨k, ek, same, fun v => ?_⟩
    obtain ⟨void, h⟩ := stands v
    exact ⟨void, fires h, by rw [other h]; exact id⟩

theorem onlyDims_putReason (b : Bool) (r : Reason) (l : LoadId) (s : State) : OnlyDims s (putReason b r l s) := by
  cases b
  · exact onlyDims_removeReason r l s
  · exact onlyDims_addReason r l s

theorem onlyDims_setDemand (n : Nat) (l : LoadId) (s : State) : OnlyDims s (setDemand n l s) := onlyDims_updLoad rfl id

/-- A change of the auxiliary outputs only voids the leg A measurement (R27). -/
theorem onlyDims_setAux (a : Aux) (s : State) : OnlyDims s (setAux a s) := by
  unfold setAux
  split
  · exact .of_same rfl rfl
  · refine ⟨rfl, fun l on => ⟨on, id⟩, fun g m e => ?_⟩
    cases g with
    | a =>
      have e : voidAny s.ldt.measA = some m := e
      cases hm : s.ldt.measA with
      | none => simp [hm, voidAny] at e
      | some k =>
        simp only [hm, voidAny, Option.some.injEq] at e
        exact ⟨k, hm, by rw [← e], fun v => by simp [← e] at v⟩
    | b => exact ⟨m, e, rfl, fun v => ⟨v, id, id⟩⟩

theorem onlyDims_boilerMove (m : BoilerMove s t) : OnlyDims s t := by
  cases m with
  | sgc | sca | degraded | notice => exact .of_same rfl rfl
  | reason r _ b => exact onlyDims_putReason b r _ s
  | demand n => exact onlyDims_setDemand n _ s
  | pumps => exact onlyDims_setAux _ s

theorem onlyDims_write (m : Write s t) : OnlyDims s t := by
  cases m with
  | boiler m => exact onlyDims_boilerMove m
  | reason r _ _ b l => exact onlyDims_putReason b r l s
  | demand n l => exact onlyDims_setDemand n l s
  | aux a => exact onlyDims_setAux a s
  | clc | sgc | run | dlu | lif => exact .of_same rfl rfl

theorem Writes.firing (h : Writes s t) : FiringLaw s → FiringLaw t := h.keeps fun _ _ m => (onlyDims_write m).firing

theorem Writes.solo (h : Writes s t) : SoloLaw s → SoloLaw t := h.keeps fun _ _ m => (onlyDims_write m).solo

/-! ## The laws of what no such write touches -/

theorem fixed_write (m : Write s t) : fixedView t = fixedView s := by
  cases m with
  | boiler m =>
    cases m with
    | sgc | degraded => rfl
    | sca a fixed => exact fixed_of_inner (inner_sca fixed)
    | notice k => exact fixed_raise k s
    | reason r own b => exact fixed_of_inner (inner_putReason own b _ s)
    | demand n => exact fixed_of_inner (inner_setDemand n _ s)
    | pumps => exact fixed_setAux _ s
  | reason r _ _ b l =>
    cases b
    · exact fixed_removeReason r l s
    · exact fixed_addReason r l s
  | demand n l => exact fixed_of_inner (inner_setDemand n l s)
  | aux a => exact fixed_setAux a s
  | clc c fixed => exact fixed_of_inner (inner_clc fixed)
  | sgc | run => rfl
  | dlu d fixed => exact fixed_dlu fixed
  | lif f fixed => exact (congrArg (fun x => { fixedView s with lif := x }) fixed)

theorem Writes.fixed (h : Writes s t) : fixedView t = fixedView s :=
  h.keeps (P := fun u => fixedView u = fixedView s) (fun _ _ m e => (fixed_write m).trans e) rfl

theorem fixed_load (h : fixedView t = fixedView s) (l : LoadId) : fixedLoad (load t l) = fixedLoad (load s l) := by
  have := congrArg (fun v => FixedView.loads v |>.get l) h
  simpa [fixedView, InnerView.fixed, innerView, innerLoad] using this

theorem listLaw_of_fixed (h : fixedView t = fixedView s) (law : ListLaw s) : ListLaw t := by
  have cls (l : LoadId) : (load t l).cls = (load s l).cls := congrArg (fun d => d.2.1) (fixed_load h l)
  have lists : t.par.lists = s.par.lists := congrArg (fun v => v.par.2.2.1) h
  have placement : t.par.placement = s.par.placement := congrArg (fun v => v.par.2.1) h
  exact ⟨fun l => by rw [cls]; exact law.own_class l, fun c hc l => by rw [lists, cls]; exact law.once c hc l,
    by rw [placement]; exact law.placement⟩

theorem configLaw_of_fixed (h : fixedView t = fixedView s) (law : ConfigLaw s) : ConfigLaw t := by
  have rated (l : LoadId) : (load t l).ratedW = (load s l).ratedW := congrArg (fun d => d.1) (fixed_load h l)
  have supply : t.par.supply = s.par.supply := congrArg (fun v => v.par.1) h
  have table : t.clc.table = s.clc.table := congrArg (fun v => v.clc.1) h
  have loop : t.clc.loop = s.clc.loop := congrArg (fun v => v.clc.2) h
  obtain ⟨budgets, reserves, slotHc, loads, entries, ranges, loops⟩ := law
  exact ⟨by rwa [supply], by rwa [supply], by rwa [supply], by simpa only [rated], by simpa only [table],
    by simpa only [table], by rwa [loop]⟩

theorem storeLaw_of_fixed (h : fixedView t = fixedView s) (law : StoreLaw s) : StoreLaw t := by
  have pst : t.pst = s.pst := congrArg FixedView.pst h
  have pending : t.lif.pendingDef = s.lif.pendingDef := congrArg (fun v => v.lif.2.2.2.2.1) h
  obtain ⟨once, referenced, kinds, lengths, tags, tagged, ranges, keepWarm, part0⟩ := law
  constructor
  case part0 => rwa [pending]
  all_goals simpa only [allRecords, userProgram, pst]

/-! ## The mask law -/

/-- SUPPLY, HEALTH, the health and the state of the frame are as they were. -/
def SameMarks (s t : State) : Prop :=
  t.par.frame.state = s.par.frame.state ∧ ∀ l, (load t l).mask.supply = (load s l).mask.supply
    ∧ (load t l).mask.health = (load s l).mask.health ∧ (load t l).health = (load s l).health

theorem maskLaw_of_sameMarks (h : SameMarks s t) (law : MaskLaw s) : MaskLaw t := by
  obtain ⟨state, marks⟩ := h
  constructor <;> intro l <;> obtain ⟨supply, health, judged⟩ := marks l
  · rw [supply, state]; exact law.supply l
  · rw [health, judged]; exact law.health l

theorem putReason_has {r q : Reason} (h : q ≠ r) (b : Bool) (l k : LoadId) (s : State) :
    (load (putReason b r l s) k).mask.has q = (load s k).mask.has q := by
  cases b
  · exact removeReason_other h l k s
  · exact addReason_other h l k s

theorem sameMarks_of_fixed (h : fixedView t = fixedView s)
    (masks : ∀ l, (load t l).mask.has .supply = (load s l).mask.has .supply
      ∧ (load t l).mask.has .health = (load s l).mask.has .health) : SameMarks s t :=
  ⟨congrArg (fun v => v.frame.1) h,
    fun l => ⟨(masks l).1, (masks l).2, congrArg (fun d => d.2.2.2.1) (fixed_load h l)⟩⟩

theorem load_setDemand_mask (n : Nat) (l k : LoadId) (s : State) : (load (setDemand n l s) k).mask = (load s k).mask := by
  rw [setDemand, load_updLoad]
  split
  · subst k; rfl
  · rfl

theorem sameMarks_write (m : Write s t) : SameMarks s t := by
  refine sameMarks_of_fixed (fixed_write m) fun l => ?_
  cases m with
  | boiler m =>
    cases m with
    | sgc | sca | degraded | notice => exact ⟨rfl, rfl⟩
    | reason r own b =>
      exact ⟨putReason_has (by rintro rfl; exact absurd own (by decide)) b _ l s,
        putReason_has (by rintro rfl; exact absurd own (by decide)) b _ l s⟩
    | demand n => simp only [load_setDemand_mask, and_self]
    | pumps => simp only [load_setAux, and_self]
  | reason r supply health b k => exact ⟨putReason_has supply.symm b k l s, putReason_has health.symm b k l s⟩
  | demand n => simp only [load_setDemand_mask, and_self]
  | aux a => simp only [load_setAux, and_self]
  | clc | sgc | run | dlu | lif => exact ⟨rfl, rfl⟩

theorem Writes.mask (h : Writes s t) : MaskLaw s → MaskLaw t := h.keeps fun _ _ m => maskLaw_of_sameMarks (sameMarks_write m)

/-! ## The ranges -/

theorem load_putReason_demand (b : Bool) (r : Reason) (l k : LoadId) (s : State) :
    (load (putReason b r l s) k).demand = (load s k).demand := by
  cases b
  · show (load (removeReason r l s) k).demand = _
    rw [load_removeReason]
    split
    · subst k; rfl
    · rfl
  · show (load (addReason r l s) k).demand = _
    rw [load_addReason]
    split
    · rename_i h; rw [h.1]
    · rfl

theorem putReason_blocks (b : Bool) (r : Reason) (l : LoadId) (s : State) :
    (putReason b r l s).clc = s.clc ∧ (putReason b r l s).sgc = s.sgc ∧ (putReason b r l s).run = s.run
      ∧ (putReason b r l s).msu = s.msu := by
  cases b
  · exact ⟨rfl, rfl, rfl, rfl⟩
  · simp only [putReason, if_true, addReason]
    split
    · exact ⟨rfl, rfl, rfl, rfl⟩
    · exact ⟨withdraw_clc .., withdraw_sgc .., withdraw_run .., withdraw_msu ..⟩

theorem rangeLaw_of_demands (demands : ∀ l, (load t l).demand ≤ 16) (clc : t.clc = s.clc) (sgc : t.sgc = s.sgc)
    (run : t.run = s.run) (msu : t.msu = s.msu) (h : RangeLaw s) : RangeLaw t := by
  obtain ⟨-, entry, loops, steam, boiler, counts, runs⟩ := h
  exact ⟨demands, by rwa [clc], by rwa [clc], by rwa [sgc], by rwa [sgc], by rwa [run], by rwa [msu]⟩

theorem rangeLaw_putReason (b : Bool) (r : Reason) (l : LoadId) (h : RangeLaw s) : RangeLaw (putReason b r l s) := by
  obtain ⟨clc, sgc, run, msu⟩ := putReason_blocks b r l s
  exact rangeLaw_of_demands (fun k => by rw [load_putReason_demand]; exact h.demands k) clc sgc run msu h

theorem rangeLaw_setDemand {n : Nat} (hn : n ≤ 16) (l : LoadId) (h : RangeLaw s) : RangeLaw (setDemand n l s) := by
  refine rangeLaw_of_demands (s := s) (fun k => ?_) rfl rfl rfl rfl h
  rw [setDemand, load_updLoad]
  split
  · exact hn
  · exact h.demands k

theorem rangeLaw_setAux (a : Aux) (h : RangeLaw s) : RangeLaw (setAux a s) :=
  rangeLaw_of_demands (fun k => by rw [load_setAux]; exact h.demands k) (setAux_clc ..) (setAux_sgc ..) (setAux_run ..)
    (setAux_msu ..) h

theorem rangeLaw_sgc {g : Sgc} (r : SteamRange g) (h : RangeLaw s) : RangeLaw { s with sgc := g } :=
  ⟨h.demands, h.entry, h.loops, r.steam, r.boiler, h.run, h.runs⟩

theorem rangeLaw_write (m : Write s t) (h : Bounded s) : RangeLaw t := by
  cases m with
  | boiler m =>
    cases m with
    | sgc g _ range => exact rangeLaw_sgc (range h.1.steamRange) h.1
    | sca | degraded | notice => exact ⟨h.1.demands, h.1.entry, h.1.loops, h.1.steam, h.1.boiler, h.1.run, h.1.runs⟩
    | reason r _ b => exact rangeLaw_putReason b r _ h.1
    | demand n _ range => exact rangeLaw_setDemand (range h.1.steamRange) _ h.1
    | pumps => exact rangeLaw_setAux _ h.1
  | reason r _ _ b l => exact rangeLaw_putReason b r l h.1
  | demand n l range => exact rangeLaw_setDemand (range h) l h.1
  | aux a => exact rangeLaw_setAux a h.1
  | clc c _ range => exact ⟨h.1.demands, (range h).entry, (range h).loops, h.1.steam, h.1.boiler, h.1.run, h.1.runs⟩
  | sgc g range => exact rangeLaw_sgc (range h) h.1
  | run r range => exact ⟨h.1.demands, h.1.entry, h.1.loops, h.1.steam, h.1.boiler, range h.1.run, h.1.runs⟩
  | dlu | lif => exact ⟨h.1.demands, h.1.entry, h.1.loops, h.1.steam, h.1.boiler, h.1.run, h.1.runs⟩

theorem Writes.bounded (h : Writes s t) : Bounded s → Bounded t :=
  h.keeps fun _ _ m b => ⟨rangeLaw_write m b, configLaw_of_fixed (fixed_write m) b.2⟩

end Sys2Proof.Machine
end

section
/-!
SUPPORT. What the run engine can do. `StepAct` lists the acts of a run that is going on, each named operation is a chain of
them, and for each act there is an equation for the run record, the climate, the door unit's view and the pause masks.
-/

namespace Sys2Proof.Machine

variable {s t u v : State}

/-! ## Views -/

/-- A run record without DEGRADED, which the steam generator may set at any time (R159). -/
def plainRun (r : Run) : Run := { r with degraded := false }

/-- What the door and limit unit and the link's silence timer hold and drive. -/
structure DoorView where
  dlu : Dlu
  svc : Svc
  lamp : Bool
  coolFan : Bool
  masks : PerLoad (Bool × Bool)
  silence : Bool × Bool

/-- The door view of a state. -/
def doorView (s : State) : DoorView where
  dlu := s.dlu
  svc := s.svc
  lamp := s.ldt.aux.lamp
  coolFan := s.ldt.aux.coolFan
  masks := .of fun l => ((load s l).mask.door, (load s l).mask.faultMode)
  silence := (s.lif.silence, s.lif.silent)

/-- Every load carries PAUSE exactly while the pause set is not empty (R153). -/
def PauseMasks (s : State) : Prop := ∀ l, (load s l).mask.pause = !s.run.pause.isEmpty

/-- FAN follows R76. -/
def FanFollows (s : State) : Prop := s.ldt.aux.fan = fanValue s

theorem inner_load (h : innerView t = innerView s) (l : LoadId) : innerLoad (load t l) = innerLoad (load s l) := by
  have := congrArg (fun v => v.loads.get l) h
  simpa only [innerView, PerLoad.get_of] using this

theorem inner_mask (h : innerView t = innerView s) (l : LoadId) : outerMask (load t l).mask = outerMask (load s l).mask :=
  congrArg Prod.snd (inner_load h l)

theorem inner_run (h : innerView t = innerView s) : plainRun t.run = plainRun s.run := congrArg InnerView.run h

theorem plainRun_pause {r q : Run} (h : plainRun r = plainRun q) : r.pause = q.pause := by
  have := congrArg Run.pause h; exact this

theorem plainRun_state {r q : Run} (h : plainRun r = plainRun q) : r.state = q.state := by
  have := congrArg Run.state h; exact this

theorem doorView_of_inner (h : innerView t = innerView s) : doorView t = doorView s := by
  have masks (l : LoadId) : ((load t l).mask.door, (load t l).mask.faultMode)
      = ((load s l).mask.door, (load s l).mask.faultMode) := by
    have door := congrArg Mask.door (inner_mask h l)
    have fault := congrArg Mask.faultMode (inner_mask h l)
    exact (congrArg₂ Prod.mk door fault :)
  have outputs := congrArg InnerView.outputs h
  have silence := congrArg (fun v => v.lif.silence) h
  have silent := congrArg (fun v => v.lif.silent) h
  simp only [doorView, masks, DoorView.mk.injEq, true_and]
  exact ⟨congrArg InnerView.dlu h, congrArg InnerView.svc h, congrArg Prod.fst outputs, congrArg Prod.snd outputs,
    (congrArg₂ Prod.mk silence silent :)⟩

theorem pauseMasks_of_inner (h : innerView t = innerView s) (p : PauseMasks s) : PauseMasks t := fun l => by
  have e : (load t l).mask.pause = (load s l).mask.pause := (congrArg Mask.pause (inner_mask h l) :)
  rw [e, plainRun_pause (inner_run h)]
  exact p l

/-! ## Acts that leave the run, the climate and the door unit alone -/

/-- Only what the steam generator and the scale account write differs. -/
structure Quiet (s t : State) : Prop where
  view : innerView t = innerView s
  climate : t.clc.climate = s.clc.climate
  timer : t.clc.loopTimer = s.clc.loopTimer
  fan : t.ldt.aux.fan = s.ldt.aux.fan

theorem Quiet.refl : Quiet s s := ⟨rfl, rfl, rfl, rfl⟩

theorem Quiet.trans (h : Quiet s u) (k : Quiet u v) : Quiet s v :=
  ⟨k.view.trans h.view, k.climate.trans h.climate, k.timer.trans h.timer, k.fan.trans h.fan⟩

theorem putReason_aux (b : Bool) (r : Reason) (l : LoadId) (s : State) : (putReason b r l s).ldt.aux = s.ldt.aux := by
  cases b
  · rfl
  · simp only [putReason, if_true, addReason]
    split
    · rfl
    · rw [withdraw_ldt]; rfl

theorem quiet_boilerMove (m : BoilerMove s t) : Quiet s t := by
  cases m with
  | sgc | degraded | notice => exact ⟨rfl, rfl, rfl, rfl⟩
  | sca a fixed => exact ⟨inner_sca fixed, rfl, rfl, rfl⟩
  | reason r own b =>
    obtain ⟨clc, -⟩ := putReason_blocks b r .boiler s
    exact ⟨inner_putReason own b _ s, by rw [clc], by rw [clc], by rw [putReason_aux]⟩
  | demand n => exact ⟨inner_setDemand n _ s, rfl, rfl, rfl⟩
  | pumps => exact ⟨inner_setAux rfl, by rw [setAux_clc], by rw [setAux_clc], by rw [setAux_aux]⟩

theorem BoilerMoves.quiet (h : BoilerMoves s t) : Quiet s t :=
  h.keeps (P := Quiet s) (fun _ _ m q => q.trans (quiet_boilerMove m)) .refl

theorem quiet_fanValue (q : Quiet s t) : fanValue t = fanValue s := by
  have dlu : t.dlu = s.dlu := congrArg InnerView.dlu q.view
  have msu : t.msu = s.msu := congrArg InnerView.msu q.view
  simp only [fanValue, dlu, msu, q.climate]

theorem Quiet.fanFollows (q : Quiet s t) (h : FanFollows s) : FanFollows t := by
  rw [FanFollows, q.fan, quiet_fanValue q]; exact h

/-! ## The climate hand-over -/

theorem fanValue_setAux (a : Aux) (s : State) : fanValue (setAux a s) = fanValue s := by
  simp only [fanValue, setAux_dlu, setAux_clc, setAux_msu]

theorem fanFollows_evalFan (s : State) : FanFollows (evalFan s) := by
  rw [FanFollows, evalFan, fanValue_setAux, setAux_aux]

theorem judgeBoiler_clc (s : State) : (judgeBoiler s).clc.climate = s.clc.climate
    ∧ (judgeBoiler s).clc.loopTimer = s.clc.loopTimer :=
  let q := (boiler_judgeBoiler (s := s) .refl).quiet
  ⟨q.climate, q.timer⟩

theorem loopUpdate_climate (s : State) : (loopUpdate s).clc.climate = s.clc.climate := by
  unfold loopUpdate handToBoiler
  rw [(judgeBoiler_clc _).1]
  simp only [evalVent, setAux_clc, heatUpdate_climate]

theorem loopUpdate_loopTimer (s : State) : (loopUpdate s).clc.loopTimer = s.clc.loopTimer := by
  unfold loopUpdate handToBoiler
  rw [(judgeBoiler_clc _).2]
  simp only [evalVent, setAux_clc, heatUpdate_loopTimer]

theorem handOver_climate (c : Climate) (s : State) : (handOver c s).clc.climate = c := by
  unfold handOver evalFan restartLoopTimer ventAtHandOver
  simp only [setAux_clc, loopUpdate_climate]
  split <;> simp only [setAux_clc]

theorem handOver_loopTimer (c : Climate) (s : State) :
    (handOver c s).clc.loopTimer.isSome = (c.kind != .none) := by
  have climate := handOver_climate c s
  unfold handOver evalFan restartLoopTimer at climate ⊢
  simp only [setAux_clc] at climate ⊢
  rw [climate]
  split <;> simp_all

theorem handOver_fan (c : Climate) (s : State) : FanFollows (handOver c s) := fanFollows_evalFan _

/-! ## The pause set -/

/-- A reason of the mask-reason set that neither the door unit nor the pause set owns. -/
theorem doorView_putReason {r : Reason} (door : r ≠ .door) (fault : r ≠ .faultMode) (b : Bool) (l : LoadId) (s : State) :
    doorView (putReason b r l s) = doorView s := by
  have masks (k : LoadId) : ((load (putReason b r l s) k).mask.door, (load (putReason b r l s) k).mask.faultMode)
      = ((load s k).mask.door, (load s k).mask.faultMode) :=
    congrArg₂ Prod.mk (putReason_has door.symm b l k s) (putReason_has fault.symm b l k s)
  have aux := putReason_aux b r l s
  have blocks : (putReason b r l s).dlu = s.dlu ∧ (putReason b r l s).svc = s.svc ∧ (putReason b r l s).lif = s.lif := by
    cases b
    · exact ⟨rfl, rfl, rfl⟩
    · simp only [putReason, if_true, addReason]
      split
      · exact ⟨rfl, rfl, rfl⟩
      · exact ⟨withdraw_dlu .., withdraw_svc .., withdraw_lif ..⟩
  simp only [doorView, masks, aux, blocks]

/-- A fold of operations that each keep a view keeps it. -/
theorem view_foldl {α β : Type} {view : State → β} {f : State → α → State} (h : ∀ s a, view (f s a) = view s) (as : List α)
    (s : State) : view (as.foldl f s) = view s := by
  induction as generalizing s with
  | nil => rfl
  | cons a as ih => exact (ih _).trans (h s a)

theorem addReasonTo_view {β : Type} {view : State → β} {r : Reason} (h : ∀ l s, view (putReason true r l s) = view s)
    (ls : List LoadId) (s : State) : view (addReasonTo r ls s) = view s := view_foldl (fun s l => h l s) ls s

theorem removeReasonFrom_view {β : Type} {view : State → β} {r : Reason}
    (h : ∀ l s, view (putReason false r l s) = view s) (ls : List LoadId) (s : State) :
    view (removeReasonFrom r ls s) = view s := view_foldl (fun s l => h l s) ls s

/-- All that a change of the pause set does to the run record. -/
theorem setPause_run (p : PauseSet) (s : State) : (setPause p s).run = { s.run with pause := p } := by
  have run (b : Bool) (l : LoadId) (u : State) : (putReason b .pause l u).run = u.run :=
    (putReason_blocks b .pause l u).2.2.1
  unfold setPause
  dsimp only
  split
  · exact addReasonTo_view (run true) _ _
  · split
    · exact removeReasonFrom_view (run false) _ _
    · rfl

theorem setPause_clc (p : PauseSet) (s : State) : (setPause p s).clc = s.clc := by
  have clc (b : Bool) (l : LoadId) (u : State) : (putReason b .pause l u).clc = u.clc := (putReason_blocks b .pause l u).1
  unfold setPause
  dsimp only
  split
  · exact addReasonTo_view (clc true) _ _
  · split
    · exact removeReasonFrom_view (clc false) _ _
    · rfl

theorem setPause_aux (p : PauseSet) (s : State) : (setPause p s).ldt.aux = s.ldt.aux := by
  have aux (b : Bool) (l : LoadId) (u : State) : (putReason b .pause l u).ldt.aux = u.ldt.aux := putReason_aux b .pause l u
  unfold setPause
  dsimp only
  split
  · exact addReasonTo_view (view := fun u => u.ldt.aux) (aux true) _ _
  · split
    · exact removeReasonFrom_view (view := fun u => u.ldt.aux) (aux false) _ _
    · rfl

theorem setPause_doorView (p : PauseSet) (s : State) : doorView (setPause p s) = doorView s := by
  have view (b : Bool) (l : LoadId) (u : State) : doorView (putReason b .pause l u) = doorView u :=
    doorView_putReason (by decide) (by decide) b l u
  unfold setPause
  dsimp only
  split
  · exact (addReasonTo_view (view true) _ _).trans rfl
  · split
    · exact (removeReasonFrom_view (view false) _ _).trans rfl
    · rfl

/-- The reason stands on every load of the list afterwards, and no other reason or load changes (R19). -/
theorem addReasonTo_has (r q : Reason) (ls : List LoadId) (l : LoadId) (s : State) :
    (load (addReasonTo r ls s) l).mask.has q = ((q == r && decide (l ∈ ls)) || (load s l).mask.has q) := by
  unfold addReasonTo
  induction ls generalizing s with
  | nil => simp
  | cons k ks ih =>
    rw [List.foldl_cons, ih]
    by_cases hq : q = r
    · subst hq
      by_cases hk : l = k
      · subst hk; simp [addReason_has]
      · rw [load_addReason, if_neg fun e => hk e.1]; simp [hk]
    · rw [addReason_other hq, beq_false_of_ne hq]; simp

/-- The reason stands on no load of the list afterwards, and no other reason or load changes (R19). -/
theorem removeReasonFrom_has (r q : Reason) (ls : List LoadId) (l : LoadId) (s : State) :
    (load (removeReasonFrom r ls s) l).mask.has q = (!(q == r && decide (l ∈ ls)) && (load s l).mask.has q) := by
  unfold removeReasonFrom
  induction ls generalizing s with
  | nil => simp
  | cons k ks ih =>
    rw [List.foldl_cons, ih]
    by_cases hq : q = r
    · subst hq
      rw [load_removeReason]
      by_cases hk : l = k
      · subst hk; simp
      · simp [hk]
    · rw [removeReason_other hq, beq_false_of_ne hq]; simp

theorem setPause_pauseMasks (p : PauseSet) (h : PauseMasks s) : PauseMasks (setPause p s) := by
  intro l
  rw [setPause_run]
  have hl : (load s l).mask.has .pause = !s.run.pause.isEmpty := h l
  show (load (setPause p s) l).mask.has .pause = !p.isEmpty
  unfold setPause
  dsimp only
  split
  · rename_i c
    rw [addReasonTo_has]
    simp_all [mem_allLoads]
  · split
    · rename_i c
      rw [removeReasonFrom_has]
      simp_all [mem_allLoads]
    · rename_i c d
      refine hl.trans ?_
      cases hs : s.run.pause.isEmpty <;> cases hp : p.isEmpty <;> simp_all

end Sys2Proof.Machine
end

section
/-!
SUPPORT. The acts of a run: what the start of a step, HOLDING entry, ENDING entry and IDLE entry each leave in the run record,
the climate and the views, and the operations of the run engine as chains of these acts.
-/

namespace Sys2Proof.Machine

variable {s t u v : State}

/-! ## Quiet operations and writes of the run record -/

theorem quiet_handRequest (st : Option Step) (s : State) : Quiet s (handRequest st s) :=
  (boiler_evalLookAhead (boiler_record (boiler_takeRequest .refl _) _)).quiet

theorem quiet_judgeDegraded (s : State) : Quiet s (judgeDegraded s) := (boiler_judgeDegraded .refl).quiet

theorem quiet_clearTank (s : State) : Quiet s (clearTank s) := (boiler_clearTank .refl).quiet

/-- The latch writes the latched quantities and the marks alone (R146). -/
theorem latchStep_eq (st : Option Step) (s : State) :
    ∃ l m, latchStep st s = { s with run := { s.run with latched := l, marks := m } } := by
  unfold latchStep
  split <;> exact ⟨_, _, rfl⟩

/-- A step start hands a climate over for a CLIMATE step, and nothing otherwise (R145 step 4). -/
theorem handClimate_cases (st : Option Step) (s : State) :
    handClimate st s = s ∨ ∃ c : Climate, c.kind = .step ∧ handClimate st s = handOver c s := by
  unfold handClimate
  split
  · exact .inr ⟨_, rfl, rfl⟩
  all_goals exact .inl rfl

/-- Taking a reason out of the set changes the set alone (R153). -/
theorem leavePause_cases (r : PauseReason) (s : State) :
    leavePause r s = setPause (s.run.pause.put r false) s ∨ s.run.pause.has r = false ∧ leavePause r s = s := by
  unfold leavePause
  split
  · exact .inl rfl
  · rename_i h; exact .inr ⟨by simpa using h, rfl⟩

theorem put_eq_self {p : PauseSet} {r : PauseReason} {b : Bool} (h : p.has r = b) : p.put r b = p := by
  subst h; cases r <;> rfl

theorem leavePause_run (r : PauseReason) (s : State) :
    (leavePause r s).run = { s.run with pause := s.run.pause.put r false } := by
  obtain e | ⟨h, e⟩ := leavePause_cases r s
  · rw [e, setPause_run]
  · rw [e, put_eq_self h]

theorem leavePause_clc (r : PauseReason) (s : State) : (leavePause r s).clc = s.clc := by
  obtain e | ⟨-, e⟩ := leavePause_cases r s
  · rw [e, setPause_clc]
  · rw [e]

theorem leavePause_pauseMasks (r : PauseReason) (h : PauseMasks s) : PauseMasks (leavePause r s) := by
  obtain e | ⟨-, e⟩ := leavePause_cases r s
  · rw [e]; exact setPause_pauseMasks _ h
  · rwa [e]

theorem addPause_cases (r : PauseReason) (s : State) :
    takesPause s.run.state r = true ∧ addPause r s = setPause (s.run.pause.put r true) s
      ∨ takesPause s.run.state r = false ∧ addPause r s = s := by
  unfold addPause
  split
  · exact .inl ⟨‹_›, rfl⟩
  · rename_i h; exact .inr ⟨by simpa using h, rfl⟩

theorem addPause_doorView (r : PauseReason) (s : State) : doorView (addPause r s) = doorView s := by
  obtain ⟨-, e⟩ | ⟨-, e⟩ := addPause_cases r s
  · rw [e, setPause_doorView]
  · rw [e]

theorem addPause_pauseMasks (r : PauseReason) (h : PauseMasks s) : PauseMasks (addPause r s) := by
  obtain ⟨-, e⟩ | ⟨-, e⟩ := addPause_cases r s
  · rw [e]; exact setPause_pauseMasks _ h
  · rwa [e]

theorem addPause_clc (r : PauseReason) (s : State) : (addPause r s).clc = s.clc := by
  obtain ⟨-, e⟩ | ⟨-, e⟩ := addPause_cases r s
  · rw [e, setPause_clc]
  · rw [e]

theorem addPause_aux (r : PauseReason) (s : State) : (addPause r s).ldt.aux = s.ldt.aux := by
  obtain ⟨-, e⟩ | ⟨-, e⟩ := addPause_cases r s
  · rw [e, setPause_aux]
  · rw [e]

/-- The pause set is the only field of the run record that an addition changes. -/
theorem addPause_run (r : PauseReason) (s : State) : (addPause r s).run
    = { s.run with pause := if takesPause s.run.state r then s.run.pause.put r true else s.run.pause } := by
  obtain ⟨h, e⟩ | ⟨h, e⟩ := addPause_cases r s
  · rw [e, setPause_run, h]; rfl
  · rw [e, h]; rfl

/-! ## What a stretch of a run keeps -/

/-- From `s` to `t` only the run goes on: the door unit's view stands, FAN stands or is set anew (R76), and the pause masks
follow the pause set. -/
structure RunsOn (s t : State) : Prop where
  door : doorView t = doorView s
  fan : t.ldt.aux.fan = s.ldt.aux.fan ∧ fanValue t = fanValue s ∨ FanFollows t
  pauseMasks : PauseMasks s → PauseMasks t

theorem RunsOn.trans (h : RunsOn s u) (k : RunsOn u v) : RunsOn s v where
  door := k.door.trans h.door
  fan := by
    obtain ⟨fan, value⟩ | follows := k.fan
    · obtain ⟨fan', value'⟩ | follows' := h.fan
      · exact .inl ⟨fan.trans fan', value.trans value'⟩
      · exact .inr (fan.trans (follows'.trans value.symm))
    · exact .inr follows
  pauseMasks p := k.pauseMasks (h.pauseMasks p)

theorem Quiet.runsOn (q : Quiet s t) : RunsOn s t :=
  ⟨doorView_of_inner q.view, .inl ⟨q.fan, quiet_fanValue q⟩, pauseMasks_of_inner q.view⟩

theorem RunsOn.refl : RunsOn s s := Quiet.refl.runsOn

theorem runsOn_handOver (c : Climate) (s : State) : RunsOn s (handOver c s) :=
  ⟨doorView_of_inner (inner_handOver c s), .inr (handOver_fan c s), pauseMasks_of_inner (inner_handOver c s)⟩

/-- A write of the run record that keeps the pause set. -/
theorem runsOn_run (r : Run) (pause : r.pause = s.run.pause) : RunsOn s { s with run := r } :=
  ⟨rfl, .inl ⟨rfl, rfl⟩, fun p l => by rw [pause]; exact p l⟩

theorem setPause_msu (p : PauseSet) (s : State) : (setPause p s).msu = s.msu := congrArg FixedView.msu (fixed_setPause p s)

theorem runsOn_setPause (p : PauseSet) (s : State) : RunsOn s (setPause p s) := by
  have dlu : (setPause p s).dlu = s.dlu := congrArg DoorView.dlu (setPause_doorView p s)
  exact ⟨setPause_doorView p s, .inl ⟨by rw [setPause_aux], by simp only [fanValue, dlu, setPause_clc, setPause_msu]⟩,
    setPause_pauseMasks p⟩

theorem runsOn_leavePause (r : PauseReason) (s : State) : RunsOn s (leavePause r s) := by
  obtain e | ⟨-, e⟩ := leavePause_cases r s
  · rw [e]; exact runsOn_setPause _ s
  · rw [e]; exact .refl

theorem runsOn_addPause (r : PauseReason) (s : State) : RunsOn s (addPause r s) := by
  obtain ⟨-, e⟩ | ⟨-, e⟩ := addPause_cases r s
  · rw [e]; exact runsOn_setPause _ s
  · rw [e]; exact .refl

theorem runsOn_dropPause (r : PauseReason) (s : State) : RunsOn s (dropPause r s) := by
  unfold dropPause
  split
  · exact (runsOn_leavePause r s).trans (quiet_clearTank _).runsOn
  · exact runsOn_leavePause r s

theorem dropPause_run (r : PauseReason) (s : State) : plainRun (dropPause r s).run
    = plainRun { s.run with pause := s.run.pause.put r false } := by
  rw [← leavePause_run]
  unfold dropPause
  split
  · exact inner_run (quiet_clearTank _).view
  · rfl

theorem dropPause_climate (r : PauseReason) (s : State) : (dropPause r s).clc.climate = s.clc.climate
    ∧ (dropPause r s).clc.loopTimer = s.clc.loopTimer := by
  have clc := leavePause_clc r s
  unfold dropPause
  split
  · have q := quiet_clearTank (leavePause r s)
    exact ⟨q.climate.trans (congrArg Clc.climate clc), q.timer.trans (congrArg Clc.loopTimer clc)⟩
  · exact ⟨congrArg Clc.climate clc, congrArg Clc.loopTimer clc⟩

/-! ## ENDING entry -/

/-- The run record is written at ENDING entry (R161). -/
def endingWritten (cause : RunOutcome) (s : State) : State :=
  { s with run := { s.run with state := .ending, endingCause := some cause, awaiting := .none, latched := {} } }

/-- The look-ahead is written false (R84). -/
def lookAheadOff (s : State) : State := { s with sgc := { s.sgc with lookAhead := false } }

theorem boiler_lookAheadOff (h : BoilerMoves s u) : BoilerMoves s (lookAheadOff u) := boiler_record h _

/-- The look-ahead falls and the DRAIN is handed at ENDING entry; the removal of TANK is judged after it (R161, log 10). -/
def drainAsked (hadTank : Bool) (s : State) : State :=
  if hadTank then clearTank (takeRequest .drain (lookAheadOff s)) else takeRequest .drain (lookAheadOff s)

/-- ENDING entry before its DRAIN is seen to be served (R161). -/
def endingEntry (cause : RunOutcome) (s : State) : State :=
  drainAsked s.run.pause.tank (handOver .absent (endingWritten cause (setPause {} s)))

theorem enterEnding_eq (cause : RunOutcome) (s : State) : enterEnding cause s = settleEnding (endingEntry cause s) := by
  simp only [enterEnding, endingEntry, drainAsked, lookAheadOff, endingWritten]

theorem boiler_drainAsked (h : BoilerMoves s u) (hadTank : Bool) : BoilerMoves s (drainAsked hadTank u) := by
  have drained := boiler_takeRequest (boiler_lookAheadOff h) .drain
  unfold drainAsked
  exact boiler_ite (boiler_clearTank drained) drained

/-- The run record of ENDING entry (R161). -/
def endingRun (cause : RunOutcome) (r : Run) : Run :=
  { r with pause := {}, state := .ending, endingCause := some cause, awaiting := .none, latched := {} }

theorem endingWritten_run (cause : RunOutcome) (s : State) :
    (endingWritten cause (setPause {} s)).run = endingRun cause s.run := by
  unfold endingWritten
  rw [setPause_run]
  rfl

theorem runsOn_endingWritten (cause : RunOutcome) (s : State) : RunsOn s (endingWritten cause s) := runsOn_run _ rfl

theorem quiet_drainAsked (hadTank : Bool) (s : State) : Quiet s (drainAsked hadTank s) :=
  (boiler_drainAsked .refl hadTank).quiet

theorem endingEntry_run (cause : RunOutcome) (s : State) :
    plainRun (endingEntry cause s).run = plainRun (endingRun cause s.run) := by
  unfold endingEntry
  rw [inner_run (quiet_drainAsked _ _).view, inner_run (inner_handOver _ _), endingWritten_run]

theorem endingEntry_climate (cause : RunOutcome) (s : State) :
    (endingEntry cause s).clc.climate = .absent ∧ (endingEntry cause s).clc.loopTimer.isSome = false := by
  unfold endingEntry
  rw [(quiet_drainAsked _ _).climate, (quiet_drainAsked _ _).timer, handOver_climate, handOver_loopTimer]
  exact ⟨rfl, rfl⟩

theorem runsOn_endingEntry (cause : RunOutcome) (s : State) : RunsOn s (endingEntry cause s) :=
  (((runsOn_setPause {} s).trans (runsOn_endingWritten cause _)).trans (runsOn_handOver _ _)).trans
    (quiet_drainAsked _ _).runsOn

theorem writes_endingEntry (h : Writes s u) (cause : RunOutcome) : Writes s (endingEntry cause u) :=
  (writes_handOver (writes_runRecord (writes_setPause h _) _) _ fun _ => weights_absent).boiler (boiler_drainAsked .refl _)

/-! ## HOLDING entry -/

/-- The run record is written at HOLDING entry (R160). -/
def holdingWritten (s : State) : State :=
  { s with run := { s.run with state := .holding, holdS := 0, awaiting := .none, latched := {} } }

/-- The look-ahead falls, and W is judged (R84). -/
def lookAheadFalls (s : State) : State := judgeBoiler (lookAheadOff s)

theorem enterHolding_eq (k : Nat) (s : State) : enterHolding k s = dropPause .probe (dropPause .tank
    (lookAheadFalls (handOver (holdClimate (holdingWritten s) k) (holdingWritten s)))) := by
  simp only [enterHolding, lookAheadFalls, lookAheadOff, holdingWritten]

theorem boiler_lookAheadFalls (h : BoilerMoves s u) : BoilerMoves s (lookAheadFalls u) :=
  boiler_judgeBoiler (boiler_lookAheadOff h)

theorem quiet_lookAheadFalls (s : State) : Quiet s (lookAheadFalls s) := (boiler_lookAheadFalls .refl).quiet

/-- The run record of HOLDING entry, with TANK and PROBE taken out of the pause set (R160). -/
def holdingRun (r : Run) : Run :=
  { r with state := .holding, holdS := 0, awaiting := .none, latched := {}
           pause := (r.pause.put .tank false).put .probe false }

theorem plainRun_put {r q : Run} (p : PauseReason) (b : Bool) (h : plainRun r = plainRun q) :
    plainRun { r with pause := r.pause.put p b } = plainRun { q with pause := q.pause.put p b } := by
  cases r; cases q
  simp only [plainRun, Run.mk.injEq] at h ⊢
  simp_all

theorem enterHolding_run (k : Nat) (s : State) : plainRun (enterHolding k s).run = plainRun (holdingRun s.run) := by
  rw [enterHolding_eq, dropPause_run, plainRun_put .probe false (dropPause_run .tank _),
    plainRun_put .probe false (plainRun_put .tank false (inner_run (quiet_lookAheadFalls _).view)),
    plainRun_put .probe false (plainRun_put .tank false (inner_run (inner_handOver _ _)))]
  rfl

theorem enterHolding_climate (k : Nat) (s : State) :
    (enterHolding k s).clc.climate.kind = .hold ∧ (enterHolding k s).clc.loopTimer.isSome = true := by
  rw [enterHolding_eq, (dropPause_climate _ _).1, (dropPause_climate _ _).2, (dropPause_climate _ _).1,
    (dropPause_climate _ _).2, (quiet_lookAheadFalls _).climate, (quiet_lookAheadFalls _).timer, handOver_climate,
    handOver_loopTimer]
  exact ⟨rfl, rfl⟩

theorem runsOn_holdingWritten (s : State) : RunsOn s (holdingWritten s) := runsOn_run _ rfl

theorem runsOn_enterHolding (k : Nat) (s : State) : RunsOn s (enterHolding k s) := by
  rw [enterHolding_eq]
  exact ((((runsOn_holdingWritten s).trans (runsOn_handOver _ _)).trans (quiet_lookAheadFalls _).runsOn).trans
    (runsOn_dropPause _ _)).trans (runsOn_dropPause _ _)

/-! ## Step start -/

/-- A step that waits for CONFIRM makes the run wait (R145 step 5). -/
def waitMarked (st : Option Step) (s : State) : State :=
  if (st.map waitsForConfirm).getD false then
    { s with run := { s.run with state := .awaitConfirm, awaiting := some .step } }
  else s

/-- A probe lost at a step's own start (R157). -/
def probeJudged (s : State) : State := if probeLost s then loseProbe s else s

theorem judgeStart_eq (st : Option Step) (s : State) : judgeStart st s = judgeDegraded (probeJudged (waitMarked st s)) := rfl

/-- The run record is written at a step start (R145 step 1). -/
def stepWritten (pos : Nat) (s : State) : State :=
  { s with run := { s.run with
    state := .active, position := some pos, elapsedS := 0, awaiting := .none, marks := {} } }

/-- The step of a position, with the run record written and TANK and PROBE taken out of the pause set (R145 step 1). -/
def stepOpened (pos : Nat) (s : State) : State := leavePause .probe (leavePause .tank (stepWritten pos s))

theorem beginStep_eq (pos : Nat) (s : State) : beginStep pos s =
    judgeStart (stepAt (stepOpened pos s) ((stepOpened pos s).run.slot.getD 0) pos)
      (handClimate (stepAt (stepOpened pos s) ((stepOpened pos s).run.slot.getD 0) pos)
        (handRequest (stepAt (stepOpened pos s) ((stepOpened pos s).run.slot.getD 0) pos)
          (latchStep (stepAt (stepOpened pos s) ((stepOpened pos s).run.slot.getD 0) pos) (stepOpened pos s)))) := rfl

/-- The run record in which a step start leaves the run engine (R145): ACTIVE, or waiting for CONFIRM, at the position, with
the fields that a step does not own as they were. -/
structure StepBegun (pos : Nat) (r q : Run) : Prop where
  slot : q.slot = r.slot
  position : q.position = some pos
  elapsed : q.elapsedS = 0
  state : q.state = .active ∧ q.awaiting = .none ∨ q.state = .awaitConfirm ∧ q.awaiting = some .step
  door : q.pause.door = r.pause.door
  ending : q.endingCause = r.endingCause
  outcome : q.outcome = r.outcome
  totals : q.totalS = r.totalS ∧ q.holdS = r.holdS

theorem StepBegun.of_plain {pos : Nat} {r q q' : Run} (e : plainRun q' = plainRun q) (h : StepBegun pos r q) :
    StepBegun pos r q' := by
  have field {α : Type} (f : Run → α) (hf : ∀ x, f (plainRun x) = f x) : f q' = f q := by
    rw [← hf q', e, hf]
  obtain ⟨slot, position, elapsed, state, door, ending, outcome, totals⟩ := h
  constructor
  · rw [field Run.slot fun _ => rfl, slot]
  · rw [field Run.position fun _ => rfl, position]
  · rw [field Run.elapsedS fun _ => rfl, elapsed]
  · rw [field Run.state fun _ => rfl, field Run.awaiting fun _ => rfl]; exact state
  · rw [field Run.pause fun _ => rfl, door]
  · rw [field Run.endingCause fun _ => rfl, ending]
  · rw [field Run.outcome fun _ => rfl, outcome]
  · rw [field Run.totalS fun _ => rfl, field Run.holdS fun _ => rfl]; exact totals

theorem stepBegun_loseProbe {pos : Nat} {r : Run} (h : StepBegun pos r s.run) : StepBegun pos r (loseProbe s).run := by
  unfold loseProbe
  split
  · rw [addPause_run]
    obtain ⟨slot, position, elapsed, state, door, ending, outcome, totals⟩ := h
    refine ⟨slot, position, elapsed, state, ?_, ending, outcome, totals⟩
    dsimp only
    split
    · exact door
    · exact door
  · exact h

theorem runsOn_loseProbe (s : State) : RunsOn s (loseProbe s) := by
  unfold loseProbe
  split
  · exact runsOn_addPause _ _
  · exact .refl

/-- From `s` to `t` a step start goes on: the run record stays begun, and a climate is handed over for a CLIMATE step alone. -/
structure Begins (pos : Nat) (r : Run) (s t : State) : Prop where
  run : StepBegun pos r s.run → StepBegun pos r t.run
  on : RunsOn s t
  kind : t.clc.climate.kind = s.clc.climate.kind ∨ t.clc.climate.kind = .step
  timer : s.clc.loopTimer.isSome = (s.clc.climate.kind != .none) → t.clc.loopTimer.isSome = (t.clc.climate.kind != .none)

theorem Begins.trans {pos : Nat} {r : Run} (h : Begins pos r s u) (k : Begins pos r u v) : Begins pos r s v where
  run b := k.run (h.run b)
  on := h.on.trans k.on
  kind := by
    obtain e | e := k.kind
    · rw [e]; exact h.kind
    · exact .inr e
  timer e := k.timer (h.timer e)

theorem Quiet.begins {pos : Nat} {r : Run} (q : Quiet s t) : Begins pos r s t :=
  ⟨StepBegun.of_plain (inner_run q.view), q.runsOn, .inl (by rw [q.climate]), by rw [q.climate, q.timer]; exact id⟩

/-- What leaves the climate controller alone keeps the climate and the timer. -/
theorem begins_of_clc {pos : Nat} {r : Run} (run : StepBegun pos r s.run → StepBegun pos r t.run) (on : RunsOn s t)
    (clc : t.clc = s.clc) : Begins pos r s t := ⟨run, on, .inl (by rw [clc]), by rw [clc]; exact id⟩

theorem begins_waitMarked (pos : Nat) (r : Run) (st : Option Step) (s : State) : Begins pos r s (waitMarked st s) := by
  unfold waitMarked
  split
  · exact begins_of_clc (fun h => ⟨h.slot, h.position, h.elapsed, .inr ⟨rfl, rfl⟩, h.door, h.ending, h.outcome, h.totals⟩)
      (runsOn_run _ rfl) rfl
  · exact Quiet.refl.begins

theorem begins_probeJudged (pos : Nat) (r : Run) (s : State) : Begins pos r s (probeJudged s) := by
  unfold probeJudged
  split
  · refine begins_of_clc stepBegun_loseProbe (runsOn_loseProbe s) ?_
    unfold loseProbe
    split
    · exact addPause_clc _ _
    · rfl
  · exact Quiet.refl.begins

theorem begins_judgeStart (pos : Nat) (r : Run) (st : Option Step) (s : State) : Begins pos r s (judgeStart st s) := by
  rw [judgeStart_eq]
  exact ((begins_waitMarked pos r st s).trans (begins_probeJudged ..)).trans (quiet_judgeDegraded _).begins

theorem begins_handClimate (pos : Nat) (r : Run) (st : Option Step) (s : State) : Begins pos r s (handClimate st s) := by
  obtain e | ⟨c, kind, e⟩ := handClimate_cases st s
  · rw [e]; exact Quiet.refl.begins
  · rw [e]
    exact ⟨StepBegun.of_plain (inner_run (inner_handOver c s)), runsOn_handOver c s, .inr (by rw [handOver_climate, kind]),
      fun _ => by rw [handOver_climate, handOver_loopTimer]⟩

theorem begins_latchStep (pos : Nat) (r : Run) (st : Option Step) (s : State) : Begins pos r s (latchStep st s) := by
  obtain ⟨l, m, e⟩ := latchStep_eq st s
  rw [e]
  exact begins_of_clc (fun h => ⟨h.slot, h.position, h.elapsed, h.state, h.door, h.ending, h.outcome, h.totals⟩)
    (runsOn_run _ rfl) rfl

theorem begins_leavePause {pos : Nat} {r : Run} {p : PauseReason} (door : p ≠ .door) (s : State) :
    Begins pos r s (leavePause p s) := by
  refine begins_of_clc (fun h => ?_) (runsOn_leavePause p s) (leavePause_clc p s)
  rw [leavePause_run]
  refine ⟨h.slot, h.position, h.elapsed, h.state, ?_, h.ending, h.outcome, h.totals⟩
  cases p <;> first | exact h.door | exact absurd rfl door

/-- A step start leaves a begun run record, and what a stretch of a run leaves (R145). -/
theorem beginStep_spec (pos : Nat) (s : State) :
    StepBegun pos s.run (beginStep pos s).run ∧ Begins pos s.run s (beginStep pos s) := by
  have written : StepBegun pos s.run (stepWritten pos s).run := ⟨rfl, rfl, rfl, .inl ⟨rfl, rfl⟩, rfl, rfl, rfl, rfl, rfl⟩
  have on : Begins pos s.run s (stepWritten pos s) := begins_of_clc (fun _ => written) (runsOn_run _ rfl) rfl
  have opened : Begins pos s.run (stepWritten pos s) (stepOpened pos s) :=
    (begins_leavePause (by decide) _).trans (begins_leavePause (by decide) _)
  have goesOn : Begins pos s.run (stepWritten pos s) (beginStep pos s) := by
    rw [beginStep_eq]
    exact (((opened.trans (begins_latchStep ..)).trans (quiet_handRequest _ _).begins).trans
      (begins_handClimate ..)).trans (begins_judgeStart ..)
  exact ⟨goesOn.run written, on.trans goesOn⟩

end Sys2Proof.Machine
end

section
/-!
SUPPORT. The acts of a run that is going on, as one relation: each operation of the run engine is a chain of them, and the pause
law, the run record law and the laws of the door, LAMP, FAN and the silence timer hold after each.
-/

namespace Sys2Proof.Machine

variable {s t u v : State}

/-! ## The oven mode, LAMP and the silence timer -/

/-- LAMP is what R23 gives in an oven mode. -/
def LampFor (m : OvenMode) (s : State) : Prop := s.ldt.aux.lamp = (s.dlu.door == .opened || m == .running)

/-- The silence timer and the silent mark are what R185 allows in an oven mode. -/
def SilenceFor (m : OvenMode) (s : State) : Prop :=
  s.lif.silence = (m == .running && !s.lif.silent) ∧ (s.lif.silent = true → m = .running)

theorem lampFor_of_doorView {m : OvenMode} (h : doorView t = doorView s) (l : LampFor m s) : LampFor m t := by
  have lamp := congrArg DoorView.lamp h
  have dlu := congrArg DoorView.dlu h
  simp only [doorView] at lamp dlu
  rw [LampFor, lamp, dlu]
  exact l

theorem silenceFor_of_doorView {m : OvenMode} (h : doorView t = doorView s) (l : SilenceFor m s) : SilenceFor m t := by
  have e := congrArg DoorView.silence h
  simp only [doorView, Prod.mk.injEq] at e
  rw [SilenceFor, e.1, e.2]
  exact l

theorem noteMode_cases (old : OvenMode) (s : State) :
    ovenMode s = old ∧ noteMode old s = s ∨ ovenMode s ≠ old ∧ noteMode old s = evalSilence (evalLamp s) := by
  unfold noteMode
  split
  · exact .inl ⟨‹_›, rfl⟩
  · exact .inr ⟨‹_›, rfl⟩

@[simp] theorem evalLamp_mode (s : State) : ovenMode (evalLamp s) = ovenMode s := by
  simp only [ovenMode, evalLamp, setAux_svc, setAux_dlu, setAux_run]

/-- Everything but LAMP, a measurement's void mark and the silence timer is as it was. -/
structure Noted (s t : State) : Prop where
  msu : t.msu = s.msu
  par : t.par = s.par
  clc : t.clc = s.clc
  sgc : t.sgc = s.sgc
  sca : t.sca = s.sca
  pst : t.pst = s.pst
  run : t.run = s.run
  dlu : t.dlu = s.dlu
  svc : t.svc = s.svc
  pending : t.pending = s.pending
  load : ∀ l, load t l = load s l
  aux : t.ldt.aux = { s.ldt.aux with lamp := t.ldt.aux.lamp }
  lif : t.lif = { s.lif with silence := t.lif.silence, silent := t.lif.silent }

theorem noteMode_noted (old : OvenMode) (s : State) : Noted s (noteMode old s) := by
  obtain ⟨-, e⟩ | ⟨-, e⟩ := noteMode_cases old s <;> rw [e]
  · exact ⟨rfl, rfl, rfl, rfl, rfl, rfl, rfl, rfl, rfl, rfl, fun _ => rfl, rfl, rfl⟩
  · constructor
    case load => exact fun l => load_setAux _ s l
    case aux => exact (setAux_aux _ s).trans (by rw [show (evalSilence (evalLamp s)).ldt.aux = _ from setAux_aux _ s])
    case lif => simp only [evalSilence, evalLamp, setAux_lif]
    all_goals simp only [evalSilence, evalLamp, setAux_msu, setAux_par, setAux_clc, setAux_sgc, setAux_sca, setAux_pst,
      setAux_run, setAux_dlu, setAux_svc, setAux_pending]

theorem Noted.mode (h : Noted s t) : ovenMode t = ovenMode s := ovenMode_congr h.svc h.dlu h.run

theorem noteMode_lamp {old : OvenMode} (h : LampFor old s) : LampFor (ovenMode (noteMode old s)) (noteMode old s) := by
  rw [(noteMode_noted old s).mode]
  obtain ⟨m, e⟩ | ⟨-, e⟩ := noteMode_cases old s <;> rw [e]
  · rwa [m]
  · have aux : (evalSilence (evalLamp s)).ldt.aux = { s.ldt.aux with lamp := s.dlu.door == .opened || ovenMode s == .running } :=
      setAux_aux _ s
    have dlu : (evalSilence (evalLamp s)).dlu = s.dlu := setAux_dlu _ s
    rw [LampFor, aux, dlu]

theorem noteMode_silence {old : OvenMode} (h : SilenceFor old s) :
    SilenceFor (ovenMode (noteMode old s)) (noteMode old s) := by
  rw [(noteMode_noted old s).mode]
  obtain ⟨m, e⟩ | ⟨-, e⟩ := noteMode_cases old s <;> rw [e]
  · rwa [m]
  · refine ⟨?_, fun h => absurd h Bool.false_ne_true⟩
    show (ovenMode (evalLamp s) == .running) = (ovenMode s == .running && !false)
    rw [evalLamp_mode, Bool.not_false, Bool.and_true]

theorem noteMode_heard {old : OvenMode} (h : s.lif.silent = false) : (noteMode old s).lif.silent = false := by
  obtain ⟨-, e⟩ | ⟨-, e⟩ := noteMode_cases old s <;> rw [e]
  · exact h
  · rfl

/-! ## What a run that goes on keeps of the door unit -/

/-- From `s` to `t` the door unit's records stand, LAMP and the silence timer follow the mode if they did, and FAN stands or is
set anew. -/
structure GoesOn (s t : State) : Prop where
  dlu : t.dlu = s.dlu
  svc : t.svc = s.svc
  coolFan : t.ldt.aux.coolFan = s.ldt.aux.coolFan
  masks : ∀ l, (load t l).mask.door = (load s l).mask.door ∧ (load t l).mask.faultMode = (load s l).mask.faultMode
  fan : t.ldt.aux.fan = s.ldt.aux.fan ∧ fanValue t = fanValue s ∨ FanFollows t
  lamp : LampFor (ovenMode s) s → LampFor (ovenMode t) t
  silence : SilenceFor (ovenMode s) s → SilenceFor (ovenMode t) t
  heard : s.lif.silent = false → t.lif.silent = false

theorem GoesOn.trans (h : GoesOn s u) (k : GoesOn u v) : GoesOn s v where
  dlu := k.dlu.trans h.dlu
  svc := k.svc.trans h.svc
  coolFan := k.coolFan.trans h.coolFan
  masks l := ⟨(k.masks l).1.trans (h.masks l).1, (k.masks l).2.trans (h.masks l).2⟩
  fan := by
    obtain ⟨fan, value⟩ | follows := k.fan
    · obtain ⟨fan', value'⟩ | follows' := h.fan
      · exact .inl ⟨fan.trans fan', value.trans value'⟩
      · exact .inr (fan.trans (follows'.trans value.symm))
    · exact .inr follows
  lamp p := k.lamp (h.lamp p)
  silence p := k.silence (h.silence p)
  heard p := k.heard (h.heard p)

theorem doorView_masks (h : doorView t = doorView s) (l : LoadId) :
    (load t l).mask.door = (load s l).mask.door ∧ (load t l).mask.faultMode = (load s l).mask.faultMode := by
  have e := congrArg (fun v => v.masks.get l) h
  simpa only [doorView, PerLoad.get_of, Prod.mk.injEq] using e

theorem RunsOn.goesOn (h : RunsOn s t) (mode : ovenMode t = ovenMode s) : GoesOn s t where
  dlu := congrArg DoorView.dlu h.door
  svc := congrArg DoorView.svc h.door
  coolFan := congrArg DoorView.coolFan h.door
  masks := doorView_masks h.door
  fan := h.fan
  lamp l := by rw [mode]; exact lampFor_of_doorView h.door l
  silence l := by rw [mode]; exact silenceFor_of_doorView h.door l
  heard p := by
    have e : t.lif.silent = s.lif.silent := congrArg (fun v => v.silence.2) h.door
    rw [e, p]

/-- The oven mode reads whether the run is IDLE, and nothing else of the run record. -/
theorem RunsOn.mode (h : RunsOn s t) (idle : t.run.state = .idle ↔ s.run.state = .idle) : ovenMode t = ovenMode s := by
  have dlu : t.dlu = s.dlu := congrArg DoorView.dlu h.door
  have svc : t.svc = s.svc := congrArg DoorView.svc h.door
  simp only [ovenMode, dlu, svc, ne_eq, idle]

/-- What follows a change of the oven mode keeps LAMP and the silence timer right (R172). -/
theorem RunsOn.noted (on : RunsOn s u) : GoesOn s (noteMode (ovenMode s) u) := by
  have n := noteMode_noted (ovenMode s) u
  have value : fanValue (noteMode (ovenMode s) u) = fanValue u := by simp only [fanValue, n.dlu, n.clc, n.msu]
  have fan : (noteMode (ovenMode s) u).ldt.aux.fan = u.ldt.aux.fan := by rw [n.aux]
  exact {
    dlu := n.dlu.trans (congrArg DoorView.dlu on.door)
    svc := n.svc.trans (congrArg DoorView.svc on.door)
    coolFan := (show (noteMode (ovenMode s) u).ldt.aux.coolFan = u.ldt.aux.coolFan by rw [n.aux]).trans
      (congrArg DoorView.coolFan on.door)
    masks := fun l => by rw [n.load]; exact doorView_masks on.door l
    fan := by
      obtain ⟨f, v⟩ | f := on.fan
      · exact .inl ⟨fan.trans f, value.trans v⟩
      · exact .inr (fan.trans (f.trans value.symm))
    lamp := fun l => noteMode_lamp (lampFor_of_doorView on.door l)
    silence := fun l => noteMode_silence (silenceFor_of_doorView on.door l)
    heard := fun h => noteMode_heard ((show u.lif.silent = s.lif.silent from
      congrArg (fun v => v.silence.2) on.door).trans h) }

/-! ## IDLE entry -/

/-- The run record of IDLE entry (R161). -/
def idleRun (r : Run) : Run := { r with state := .idle, outcome := r.endingCause, endingCause := .none }

/-- The run record is written at IDLE entry. -/
def idleWritten (s : State) : State := { s with run := idleRun s.run }

theorem enterIdle_eq (s : State) :
    enterIdle s = noteMode (ovenMode s) (raise .programEnded (takeRequest .none (idleWritten s))) := rfl

theorem quiet_idleRaised (s : State) : Quiet (idleWritten s) (raise .programEnded (takeRequest .none (idleWritten s))) :=
  (boiler_raise (boiler_takeRequest .refl _) _).quiet

theorem enterIdle_run (s : State) : plainRun (enterIdle s).run = plainRun (idleRun s.run) := by
  rw [enterIdle_eq, (noteMode_noted _ _).run, inner_run (quiet_idleRaised s).view]
  rfl

theorem enterIdle_climate (s : State) : (enterIdle s).clc.climate = s.clc.climate
    ∧ (enterIdle s).clc.loopTimer = s.clc.loopTimer := by
  rw [enterIdle_eq, (noteMode_noted _ _).clc, (quiet_idleRaised s).climate, (quiet_idleRaised s).timer]
  exact ⟨rfl, rfl⟩

theorem enterIdle_pauseMasks (h : PauseMasks s) : PauseMasks (enterIdle s) := by
  have raised := (quiet_idleRaised s).runsOn.pauseMasks fun l => h l
  intro l
  rw [enterIdle_eq, (noteMode_noted _ _).load, (noteMode_noted _ _).run]
  exact raised l

theorem enterIdle_goesOn (s : State) : GoesOn s (enterIdle s) :=
  (RunsOn.trans (runsOn_run (idleRun s.run) rfl) (quiet_idleRaised s).runsOn).noted

theorem writes_enterIdle (h : Writes s u) : Writes s (enterIdle u) := by
  rw [enterIdle_eq]
  exact writes_noteMode ((writes_runRecord h _).boiler (boiler_raise (boiler_takeRequest .refl _) _)) _

/-! ## The acts -/

/-- The fields of a run record by which the laws of the run go. -/
def runCore (r : Run) :
    Option Nat × RunState × Option Nat × Option Awaiting × PauseSet × Option RunOutcome × Option RunOutcome :=
  (r.slot, r.state, r.position, r.awaiting, r.pause, r.endingCause, r.outcome)

/-- One act of a run that is going on. -/
inductive StepAct : State → State → Prop
  | quiet {s t : State} (w : Writes s t) (q : Quiet s t) : StepAct s t
  | setpoints {s : State} (c : Climate) (kind : (c.kind, c.entry) = (s.clc.climate.kind, s.clc.climate.entry)) :
      StepAct s { s with clc := { s.clc with climate := c } }
  | addPause {s : State} (r : PauseReason) (door : r ≠ .door) : StepAct s (addPause r s)
  | leavePause {s : State} (r : PauseReason) : StepAct s (leavePause r s)
  | record {s : State} (r : Run) (core : runCore r = runCore s.run)
      (latched : hasCurrent s = false → r.latched = s.run.latched) (range : RunRange s.run → RunRange r)
      (hold : r.holdS = s.run.holdS ∨ r.holdS ≤ 3600) : StepAct s { s with run := r }
  | awaitNext {s : State} (current : hasCurrent s = true) :
      StepAct s { s with run := { s.run with state := .awaitConfirm, awaiting := some .next } }
  | beginStep {s : State} (pos : Nat) (current : hasCurrent s = true) : StepAct s (beginStep pos s)
  | holding {s : State} (k : Nat) (current : hasCurrent s = true) : StepAct s (enterHolding k s)
  | ending {s : State} (c : RunOutcome) (busy : s.run.state ≠ .idle) : StepAct s (endingEntry c s)
  | idle {s : State} (ending : s.run.state = .ending) : StepAct s (enterIdle s)
  | faultCause {s : State} (ending : s.run.state = .ending) :
      StepAct s { s with run := { s.run with endingCause := some .faulted } }

theorem StepAct.writes (a : StepAct s t) : Writes s t := by
  cases a with
  | quiet w => exact w
  | setpoints c kind =>
    simp only [Prod.mk.injEq] at kind
    exact writes_climate .refl _ kind.2
  | addPause r => exact writes_addPause .refl r
  | leavePause r => exact writes_leavePause .refl r
  | record r _ _ range => exact writes_run .refl r range
  | awaitNext | faultCause => exact writes_runRecord .refl _
  | beginStep pos => exact writes_beginStep .refl pos
  | holding k => exact writes_enterHolding .refl k
  | ending c => exact writes_endingEntry .refl c
  | idle => exact writes_enterIdle .refl

theorem hasCurrent_iff : hasCurrent s = true ↔ s.run.state = .active ∨ s.run.state = .awaitConfirm := by
  simp [hasCurrent]

theorem StepAct.goesOn (a : StepAct s t) : GoesOn s t := by
  have busy {u : State} (on : RunsOn s u) (hs : s.run.state ≠ .idle) (hu : u.run.state ≠ .idle) : GoesOn s u :=
    on.goesOn (on.mode ⟨fun e => absurd e hu, fun e => absurd e hs⟩)
  have of_current (h : hasCurrent s = true) : s.run.state ≠ .idle := by
    obtain e | e := hasCurrent_iff.1 h <;> rw [e] <;> decide
  have same {u : State} (on : RunsOn s u) (state : u.run.state = s.run.state) : GoesOn s u :=
    on.goesOn (on.mode (by rw [state]))
  cases a with
  | quiet w q => exact same q.runsOn (plainRun_state (inner_run q.view))
  | setpoints c kind =>
    simp only [Prod.mk.injEq] at kind
    refine same ⟨rfl, .inl ⟨rfl, ?_⟩, id⟩ rfl
    simp only [fanValue, kind]
  | addPause r => exact same (runsOn_addPause r s) (by rw [addPause_run])
  | leavePause r => exact same (runsOn_leavePause r s) (by rw [leavePause_run])
  | record r core =>
    simp only [runCore, Prod.mk.injEq] at core
    exact same (runsOn_run r core.2.2.2.2.1) core.2.1
  | awaitNext current => exact busy (runsOn_run _ rfl) (of_current current) (by simp)
  | beginStep pos current =>
    obtain ⟨begun, on⟩ := beginStep_spec pos s
    refine busy on.on (of_current current) ?_
    obtain ⟨e, -⟩ | ⟨e, -⟩ := begun.state <;> rw [e] <;> decide
  | holding k current =>
    refine busy (runsOn_enterHolding k s) (of_current current) ?_
    rw [plainRun_state (enterHolding_run k s)]
    simp [holdingRun]
  | ending c hs =>
    refine busy (runsOn_endingEntry c s) hs ?_
    rw [plainRun_state (endingEntry_run c s)]
    simp [endingRun]
  | idle => exact enterIdle_goesOn s
  | faultCause => exact same (runsOn_run _ rfl) rfl

end Sys2Proof.Machine
end

section
/-!
SUPPORT. The pause law and the run record law after each act of a run, and the operations of the run engine as chains of acts.
-/

namespace Sys2Proof.Machine

variable {s t u v : State}

/-! ## The run record law -/

/-- The run record law (Table 8.1) of a run record beside the climate's kind, the loop timer and the strap. -/
structure RunShape (r : Run) (kind : ClimateKind) (timer service : Bool) : Prop where
  awaiting : r.awaiting.isSome = (r.state == .awaitConfirm)
  ending : r.endingCause.isSome = (r.state == .ending)
  outcome : r.state ≠ .idle → r.outcome = .none
  latched : (r.state == .active || r.state == .awaitConfirm) = false → r.latched = {}
  slot : r.state ≠ .idle → r.slot.isSome = true ∧ r.position.isSome = true
  hold : r.holdS ≤ 3600
  climate : (kind = .hold ↔ r.state = .holding) ∧ (r.state = .idle ∨ r.state = .ending → kind = .none)
  timer : timer = (kind != .none)
  service : service = true → r.state = .idle

theorem runLaw_iff : RunLaw s ↔ RunShape s.run s.clc.climate.kind s.clc.loopTimer.isSome s.svc.service :=
  ⟨fun ⟨a, b, c, d, e, f, g, i, j⟩ => ⟨a, b, c, d, e, f, g, i, j⟩,
    fun ⟨a, b, c, d, e, f, g, i, j⟩ => ⟨a, b, c, d, e, f, g, i, j⟩⟩

theorem runShape_plain {r : Run} {kind : ClimateKind} {timer service : Bool} :
    RunShape (plainRun r) kind timer service ↔ RunShape r kind timer service :=
  ⟨fun ⟨a, b, c, d, e, f, g, i, j⟩ => ⟨a, b, c, d, e, f, g, i, j⟩,
    fun ⟨a, b, c, d, e, f, g, i, j⟩ => ⟨a, b, c, d, e, f, g, i, j⟩⟩

/-- The law of a state whose run record is known up to DEGRADED. -/
theorem runLaw_of_plain {r : Run} (run : plainRun t.run = plainRun r)
    (shape : RunShape r t.clc.climate.kind t.clc.loopTimer.isSome t.svc.service) : RunLaw t := by
  rw [runLaw_iff, ← runShape_plain, run, runShape_plain]
  exact shape

theorem Quiet.runLaw (q : Quiet s t) (h : RunLaw s) : RunLaw t := by
  refine runLaw_of_plain (inner_run q.view) ?_
  have svc : t.svc = s.svc := congrArg InnerView.svc q.view
  rw [q.climate, q.timer, svc]
  exact runLaw_iff.1 h

theorem StepAct.runLaw (a : StepAct s t) (h : RunLaw s) : RunLaw t := by
  have svc : t.svc = s.svc := a.goesOn.svc
  have shape := runLaw_iff.1 h
  cases a with
  | quiet w q => exact q.runLaw h
  | setpoints c kind =>
    simp only [Prod.mk.injEq] at kind
    rw [runLaw_iff]
    dsimp only
    rw [kind.1]
    exact shape
  | addPause r =>
    obtain ⟨awaiting, ending, outcome, latched, slot, hold, climate, timer, service⟩ := shape
    rw [runLaw_iff, addPause_run, addPause_clc, svc]
    exact ⟨awaiting, ending, outcome, latched, slot, hold, climate, timer, service⟩
  | leavePause r =>
    obtain ⟨awaiting, ending, outcome, latched, slot, hold, climate, timer, service⟩ := shape
    rw [runLaw_iff, leavePause_run, leavePause_clc, svc]
    exact ⟨awaiting, ending, outcome, latched, slot, hold, climate, timer, service⟩
  | record r core latched _ holds =>
    simp only [runCore, Prod.mk.injEq] at core
    obtain ⟨slot, state, position, awaiting, -, ending, outcome⟩ := core
    rw [runLaw_iff]
    constructor <;> dsimp only
    · rw [awaiting, state]; exact shape.awaiting
    · rw [ending, state]; exact shape.ending
    · rw [outcome, state]; exact shape.outcome
    · rw [state]; exact fun e => (latched e).trans (shape.latched e)
    · rw [state, slot, position]; exact shape.slot
    · obtain e | e := holds
      · rw [e]; exact shape.hold
      · exact e
    · rw [state]; exact shape.climate
    · exact shape.timer
    · rw [state]; exact shape.service
  | awaitNext current =>
    have state := hasCurrent_iff.1 current
    rw [runLaw_iff]
    constructor <;> dsimp only
    · rfl
    · rw [shape.ending]; obtain e | e := state <;> rw [e]; all_goals rfl
    · exact fun _ => shape.outcome (by obtain e | e := state <;> rw [e] <;> decide)
    · exact fun e => absurd e (by decide)
    · exact fun _ => shape.slot (by obtain e | e := state <;> rw [e] <;> decide)
    · exact shape.hold
    · refine ⟨⟨fun e => ?_, fun e => absurd e (by decide)⟩, fun e => absurd e (by decide)⟩
      rw [shape.climate.1.1 e] at state
      exact absurd state (by decide)
    · exact shape.timer
    · intro hs; rw [shape.service hs] at state; exact absurd state (by decide)
  | beginStep pos current =>
    have was := hasCurrent_iff.1 current
    obtain ⟨begun, begins⟩ := beginStep_spec pos s
    have busy : (Machine.beginStep pos s).run.state = .active ∨ (Machine.beginStep pos s).run.state = .awaitConfirm :=
      begun.state.imp And.left And.left
    have notHold : s.clc.climate.kind ≠ .hold := fun e => by
      rw [shape.climate.1.1 e] at was; exact absurd was (by decide)
    rw [runLaw_iff, svc]
    constructor
    · obtain ⟨e, e'⟩ | ⟨e, e'⟩ := begun.state <;> rw [e, e'] <;> rfl
    · rw [begun.ending, shape.ending]
      obtain e | e := was <;> obtain e' | e' := busy <;> rw [e, e'] <;> rfl
    · exact fun _ => begun.outcome.trans (shape.outcome (by obtain e | e := was <;> rw [e] <;> decide))
    · intro e; obtain e' | e' := busy <;> rw [e'] at e <;> exact absurd e (by decide)
    · rw [begun.slot, begun.position]
      exact fun _ => ⟨(shape.slot (by obtain e | e := was <;> rw [e] <;> decide)).1, rfl⟩
    · rw [begun.totals.2]; exact shape.hold
    · refine ⟨⟨fun e => ?_, fun e => ?_⟩, fun e => ?_⟩
      · obtain k | k := begins.kind
        · exact absurd (k.symm.trans e) notHold
        · rw [k] at e; exact absurd e (by decide)
      · obtain e' | e' := busy <;> rw [e'] at e <;> exact absurd e (by decide)
      · obtain e' | e' := busy <;> rw [e'] at e <;> exact absurd e (by decide)
    · exact begins.timer shape.timer
    · intro hs; rw [shape.service hs] at was; exact absurd was (by decide)
  | holding k current =>
    have was := hasCurrent_iff.1 current
    obtain ⟨kind, timer⟩ := enterHolding_climate k s
    refine runLaw_of_plain (enterHolding_run k s) ?_
    rw [kind, timer, svc]
    have busy : s.run.state ≠ .idle := by obtain e | e := was <;> rw [e] <;> decide
    refine ⟨rfl, shape.ending.trans ?_, fun _ => shape.outcome busy, fun _ => rfl, fun _ => shape.slot busy, Nat.zero_le _,
      ⟨⟨fun _ => rfl, fun _ => rfl⟩, fun e => absurd e ?_⟩, rfl, ?_⟩
    · obtain e | e := was <;> rw [e] <;> rfl
    · show ¬ (RunState.holding = .idle ∨ RunState.holding = .ending)
      decide
    · intro hs; rw [shape.service hs] at was; exact absurd was (by decide)
  | ending c busy =>
    obtain ⟨climate, timer⟩ := endingEntry_climate c s
    refine runLaw_of_plain (endingEntry_run c s) ?_
    rw [climate, timer, svc]
    exact ⟨rfl, rfl, fun _ => shape.outcome busy, fun _ => rfl, fun _ => shape.slot busy, shape.hold,
      ⟨⟨nofun, nofun⟩, fun _ => rfl⟩, rfl, fun hs => absurd (shape.service hs) busy⟩
  | idle ending =>
    obtain ⟨climate, timer⟩ := enterIdle_climate s
    refine runLaw_of_plain (enterIdle_run s) ?_
    rw [climate, timer, svc]
    have none := shape.climate.2 (.inr ending)
    exact ⟨shape.awaiting.trans (by rw [ending]; rfl), rfl, fun e => absurd rfl e,
      fun _ => shape.latched (by rw [ending]; rfl), fun e => absurd rfl e, shape.hold,
      ⟨⟨fun e => (nomatch none.symm.trans e), nofun⟩, fun _ => none⟩, shape.timer, fun _ => rfl⟩
  | faultCause ending =>
    rw [runLaw_iff]
    obtain ⟨awaiting, -, outcome, latched, slot, hold, climate, timer, service⟩ := shape
    exact ⟨awaiting, by rw [ending]; rfl, outcome, latched, slot, hold, climate, timer, service⟩

/-! ## The pause law -/

theorem pauseLaw_of_plain {r : Run} (run : plainRun t.run = plainRun r) (masks : PauseMasks t)
    (taken : ∀ p, r.pause.has p = true → takesPause r.state p = true) : PauseLaw t := by
  refine ⟨masks, ?_⟩
  rw [plainRun_pause run, plainRun_state run]
  exact taken

theorem takesPause_current {st : RunState} (h : st = .active ∨ st = .awaitConfirm) (p : PauseReason) :
    takesPause st p = true := by
  obtain rfl | rfl := h <;> rfl

theorem has_put_false {p : PauseSet} {r q : PauseReason} (h : (p.put r false).has q = true) : q ≠ r ∧ p.has q = true := by
  rw [PauseSet.has_put] at h
  split at h
  · exact absurd h Bool.false_ne_true
  · exact ⟨‹_›, h⟩

theorem pauseLaw_addPause (r : PauseReason) (h : PauseLaw s) : PauseLaw (addPause r s) := by
  refine ⟨addPause_pauseMasks r h.masks, fun p hp => ?_⟩
  rw [addPause_run] at hp ⊢
  dsimp only at hp ⊢
  split at hp
  · rw [PauseSet.has_put] at hp
    split at hp
    · rename_i e; rw [e]; assumption
    · exact h.taken p hp
  · exact h.taken p hp

theorem Quiet.pauseLaw (q : Quiet s t) (h : PauseLaw s) : PauseLaw t :=
  pauseLaw_of_plain (inner_run q.view) (q.runsOn.pauseMasks h.masks) h.taken

theorem StepAct.pauseLaw (a : StepAct s t) (h : PauseLaw s) : PauseLaw t := by
  cases a with
  | quiet w q => exact q.pauseLaw h
  | setpoints | faultCause => exact ⟨h.masks, h.taken⟩
  | addPause r => exact pauseLaw_addPause r h
  | leavePause r =>
    refine ⟨leavePause_pauseMasks r h.masks, fun p hp => ?_⟩
    rw [leavePause_run] at hp ⊢
    exact h.taken p (has_put_false hp).2
  | record r core =>
    simp only [runCore, Prod.mk.injEq] at core
    obtain ⟨-, state, -, -, pause, -⟩ := core
    refine ⟨fun l => ?_, ?_⟩
    · dsimp only; rw [pause]; exact h.masks l
    · dsimp only; rw [pause, state]; exact h.taken
  | awaitNext current => exact ⟨h.masks, fun p _ => takesPause_current (.inr rfl) p⟩
  | beginStep pos current =>
    obtain ⟨begun, begins⟩ := beginStep_spec pos s
    exact ⟨begins.on.pauseMasks h.masks, fun p _ => takesPause_current (begun.state.imp And.left And.left) p⟩
  | holding k current =>
    refine pauseLaw_of_plain (enterHolding_run k s) ((runsOn_enterHolding k s).pauseMasks h.masks) fun p hp => ?_
    obtain ⟨probe, hp⟩ := has_put_false hp
    obtain ⟨tank, -⟩ := has_put_false hp
    cases p <;> first | rfl | contradiction
  | ending c busy =>
    refine pauseLaw_of_plain (endingEntry_run c s) ((runsOn_endingEntry c s).pauseMasks h.masks) fun p hp => ?_
    cases p <;> exact absurd hp Bool.false_ne_true
  | idle ending =>
    refine pauseLaw_of_plain (enterIdle_run s) (enterIdle_pauseMasks h.masks) fun p hp => ?_
    have taken := h.taken p hp
    rw [ending] at taken
    exact absurd taken (by cases p <;> decide)

/-! ## Chains of acts -/

/-- A chain of acts of a run. -/
def StepActs : State → State → Prop := Relation.ReflTransGen StepAct

theorem StepActs.refl : StepActs s s := Relation.ReflTransGen.refl

theorem StepActs.tail (h : StepActs s u) (a : StepAct u v) : StepActs s v := Relation.ReflTransGen.tail h a

theorem StepActs.trans (h : StepActs s u) (k : StepActs u v) : StepActs s v := Relation.ReflTransGen.trans h k

/-- What every act of a run keeps, a chain of acts keeps. -/
theorem StepActs.keeps {P : State → Prop} (keep : ∀ s t, StepAct s t → P s → P t) (h : StepActs s u) (hs : P s) : P u := by
  induction h with
  | refl => exact hs
  | tail _ a ih => exact keep _ _ a ih

theorem StepActs.writes (h : StepActs s t) : Writes s t :=
  h.keeps (P := Writes s) (fun _ _ a w => w.trans a.writes) .refl

theorem StepActs.goesOn (h : StepActs s t) : GoesOn s t :=
  h.keeps (P := GoesOn s) (fun _ _ a g => g.trans a.goesOn) (RunsOn.refl.goesOn rfl)

theorem StepActs.runLaw (h : StepActs s t) : RunLaw s → RunLaw t := h.keeps fun _ _ a => a.runLaw

theorem StepActs.pauseLaw (h : StepActs s t) : PauseLaw s → PauseLaw t := h.keeps fun _ _ a => a.pauseLaw

theorem StepActs.boiler (h : StepActs s u) (k : BoilerMoves u v) : StepActs s v :=
  h.tail (.quiet (Writes.refl.boiler k) k.quiet)

theorem acts_ite {p : Prop} [Decidable p] (ht : StepActs s u) (hf : StepActs s v) :
    StepActs s (if p then u else v) := by
  split
  · exact ht
  · exact hf

/-- A write of the run record that keeps its counts, its latched quantities and what the laws go by. -/
theorem acts_record (h : StepActs s u) (r : Run) (core : runCore r = runCore u.run := by rfl)
    (latched : r.latched = u.run.latched := by rfl)
    (counts : (r.elapsedS, r.totalS, r.holdS) = (u.run.elapsedS, u.run.totalS, u.run.holdS) := by rfl) :
    StepActs s { u with run := r } := by
  simp only [Prod.mk.injEq] at counts
  obtain ⟨he, ht, hh⟩ := counts
  exact h.tail (.record r core (fun _ => latched) (by rw [RunRange, RunRange, he, ht, hh]; exact id) (.inl hh))

theorem acts_raise (h : StepActs s u) (k : Notice) : StepActs s (raise k u) := h.boiler (boiler_raise .refl k)

theorem acts_addPause (h : StepActs s u) {r : PauseReason} (door : r ≠ .door) : StepActs s (addPause r u) :=
  h.tail (.addPause r door)

theorem acts_dropPause (h : StepActs s u) (r : PauseReason) : StepActs s (dropPause r u) :=
  acts_ite ((h.tail (.leavePause r)).boiler (boiler_clearTank .refl)) (h.tail (.leavePause r))

theorem acts_tankEmptyReport (h : StepActs s u) : StepActs s (tankEmptyReport u) :=
  acts_ite (acts_addPause h (by decide)) h

theorem acts_loseProbe (h : StepActs s u) : StepActs s (loseProbe u) := acts_ite (acts_addPause h (by decide)) h

theorem acts_settleEnding (h : StepActs s u) : StepActs s (settleEnding u) := by
  unfold settleEnding
  split
  · rename_i c; exact h.tail (.idle c.1)
  · exact h

theorem acts_enterEnding (h : StepActs s u) (c : RunOutcome) (busy : u.run.state ≠ .idle) :
    StepActs s (enterEnding c u) := by
  rw [enterEnding_eq]
  exact acts_settleEnding (h.tail (.ending c busy))

/-! ## The end of a step -/

theorem hasCurrent_busy (h : hasCurrent s = true) : s.run.state ≠ .idle := by
  obtain e | e := hasCurrent_iff.1 h <;> rw [e] <;> decide

theorem Quiet.current (q : Quiet s t) : hasCurrent t = hasCurrent s := by
  simp only [hasCurrent, plainRun_state (inner_run q.view)]

theorem boiler_rinseEnd (h : BoilerMoves s u) : BoilerMoves s (rinseEnd u) :=
  boiler_ite (boiler_judgeBoiler (boiler_sca h _)) h

theorem acts_lastStepEnded (h : StepActs s u) (current : hasCurrent u = true) : StepActs s (lastStepEnded u) := by
  have rinsed : BoilerMoves u (if runsSystem u then rinseEnd u else u) := boiler_ite (boiler_rinseEnd .refl) .refl
  unfold lastStepEnded
  generalize (if runsSystem u = true then rinseEnd u else u) = w at rinsed ⊢
  have hw := h.boiler rinsed
  have now := rinsed.quiet.current.trans current
  dsimp only
  split
  · exact hw.tail (.holding _ now)
  · exact acts_enterEnding hw _ (hasCurrent_busy now)

theorem beginStep_current (pos : Nat) (s : State) : hasCurrent (beginStep pos s) = true :=
  hasCurrent_iff.2 ((beginStep_spec pos s).1.state.imp And.left And.left)

theorem acts_recordEnd (h : StepActs s u) (c : EndCause) : StepActs s (recordEnd c u) := acts_raise (acts_record h _) _

theorem acts_startStep (fuel pos : Nat) (h : StepActs s u) (current : hasCurrent u = true) :
    StepActs s (startStep fuel pos u) := by
  induction fuel generalizing pos u with
  | zero => exact h
  | succ n ih =>
    have begun := h.tail (.beginStep pos current)
    have now := beginStep_current pos u
    have recorded := acts_recordEnd begun .condition
    have recordedNow : hasCurrent (recordEnd .condition (beginStep pos u)) = true := now
    unfold startStep
    exact acts_ite (acts_ite (ih (pos + 1) recorded recordedNow) (acts_lastStepEnded recorded recordedNow)) begun

theorem acts_proceed (h : StepActs s u) (current : hasCurrent u = true) : StepActs s (proceed u) :=
  acts_ite (acts_startStep _ _ h current) (acts_lastStepEnded h current)

theorem acts_endStep (h : StepActs s u) (c : EndCause) (current : hasCurrent u = true) : StepActs s (endStep c u) := by
  have recorded := acts_recordEnd h c
  have now : hasCurrent (recordEnd c u) = true := current
  exact acts_ite (acts_raise (recorded.tail (.awaitNext now)) _) (acts_proceed recorded now)

theorem boilerStepServed_current (h : boilerStepServed s = true) : hasCurrent s = true := by
  simp only [boilerStepServed, Bool.and_eq_true, beq_iff_eq] at h
  exact hasCurrent_iff.2 (.inl h.1.1.1)

theorem unpaused_current (h : unpaused s = true) : hasCurrent s = true := by
  simp only [unpaused, Bool.and_eq_true, beq_iff_eq] at h
  exact hasCurrent_iff.2 (.inl h.1)

theorem acts_settleRun (h : StepActs s u) : StepActs s (settleRun u) := by
  unfold settleRun
  split
  · exact acts_endStep h _ (boilerStepServed_current ‹_›)
  · exact acts_settleEnding h

theorem reachedNow_current {x : Int} (h : reachedNow x s = true) : hasCurrent s = true := by
  rw [reachedNow, Bool.and_eq_true] at h
  exact unpaused_current h.1

theorem coreNow_current {x : Int} (h : coreNow x s = true) : hasCurrent s = true := by
  rw [coreNow, Bool.and_eq_true] at h
  exact unpaused_current h.1

theorem acts_runCavitySample (h : StepActs s u) (x : Int) : StepActs s (runCavitySample x u) := by
  unfold runCavitySample
  split
  · exact acts_endStep h _ (reachedNow_current ‹_›)
  · exact h

theorem acts_runCoreSample (h : StepActs s u) (x : Int) : StepActs s (runCoreSample x u) := by
  have settled := acts_settleRun (acts_dropPause h .probe)
  unfold runCoreSample
  dsimp only
  split
  · exact acts_endStep settled _ (coreNow_current ‹_›)
  · exact settled

/-! ## The ticks -/

theorem acts_tickCounts (h : StepActs s u) : StepActs s (tickCounts u) :=
  h.tail (.record _ rfl (fun _ => rfl) (fun r => ⟨min_le_left _ _, min_le_left _ _, r.2.2⟩) (.inl rfl))

theorem acts_stepTick (h : StepActs s u) : StepActs s (stepTick u) := by
  unfold stepTick
  split
  · have current : hasCurrent (tickCounts u) = true := unpaused_current ‹_›
    have ticked := acts_tickCounts h
    dsimp only
    split
    · exact acts_endStep (acts_record ticked _) _ current
    · exact acts_endStep ticked _ current
    · exact ticked
  · split
    · have held : StepActs s { u with run := { u.run with holdS := satAdd Config.holdSeconds u.run.holdS 1 } } :=
        h.tail (.record _ rfl (fun _ => rfl) (fun r => ⟨r.1, r.2.1, min_le_left _ _⟩) (.inr (min_le_left _ _)))
      refine acts_ite (acts_enterEnding held _ ?_) held
      dsimp only
      rw [‹u.run.state = .holding›]
      decide
    · exact h

theorem acts_soakReport (h : StepActs s u) (n : Nat) : StepActs s (soakReport n u) := by
  unfold soakReport
  split
  · split
    · rename_i c; exact acts_endStep h _ (unpaused_current c.1)
    · exact h
  · exact h

theorem boiler_countFill (h : BoilerMoves s u) : BoilerMoves s (countFill u) :=
  boiler_sgc h _ fun r => ⟨r.steam, min_le_left _ _, r.boiler.2⟩

theorem acts_sgcTick (h : StepActs s u) : StepActs s (sgcTick u) := by
  have filled := h.boiler (boiler_countFill .refl)
  unfold sgcTick
  cases u.sgc.state
  case filling =>
    exact acts_ite (acts_settleRun (acts_tankEmptyReport (filled.boiler (boiler_fillTimesOut .refl)))) filled
  case refilling =>
    exact acts_ite (acts_settleRun (acts_tankEmptyReport (filled.boiler (boiler_refillTimesOut .refl)))) filled
  case heating =>
    have counted : StepActs s { u with sgc := { u.sgc with heatCount := satAdd Config.heatSeconds u.sgc.heatCount 1 } } :=
      h.boiler (boiler_sgc .refl _ fun r => ⟨r.steam, r.boiler.1, min_le_left _ _, r.boiler.2.2⟩)
    exact acts_ite (acts_ite (counted.boiler (boiler_boilerFaults .refl)) counted) h
  case draining =>
    dsimp only
    split
    · exact h
    · rename_i n _
      have counted : StepActs s { u with sgc := { u.sgc with drainCount := some (satAdd Config.drainSeconds n 1) } } := by
        refine h.boiler (boiler_sgc .refl _ fun r => ⟨r.steam, r.boiler.1, r.boiler.2.1, fun k e => ?_, r.boiler.2.2.2⟩)
        rw [← Option.some.inj e]
        exact min_le_left _ _
      exact acts_ite (acts_settleRun (counted.boiler (boiler_drainCompletes .refl))) counted
  case soaking =>
    have counted : StepActs s { u with sgc := { u.sgc with
        soakedS := some (satAdd Config.countMax (u.sgc.soakedS.getD 0) 1) } } := by
      refine h.boiler (boiler_sgc .refl _ fun r => ⟨r.steam, r.boiler.1, r.boiler.2.1, r.boiler.2.2.1, fun k e => ?_⟩)
      rw [← Option.some.inj e]
      exact min_le_left _ _
    exact acts_ite (acts_soakReport counted _) h
  all_goals exact h

end Sys2Proof.Machine
end

section
/-!
SUPPORT. What one command keeps: `Keeps` holds the laws' implications from one state to the next, chains of writes and of acts
of a run give it, and so do the events of the door and limit unit, the start of a run and INIT.
-/

namespace Sys2Proof.Machine

variable {s t u v : State}

/-! ## The laws that a stretch of a command keeps -/

/-- The laws of the load table, the arbiter, the configuration and the store are kept. -/
structure TableKeeps (s t : State) : Prop where
  firing : FiringLaw s → FiringLaw t
  solo : SoloLaw s → SoloLaw t
  mask : FiringLaw s → SoloLaw s → MaskLaw s → MaskLaw t
  bounded : Bounded s → RangeLaw t
  list : ListLaw s → ListLaw t
  config : ConfigLaw s → ConfigLaw t
  store : StoreLaw s → StoreLaw t

theorem TableKeeps.trans (h : TableKeeps s u) (k : TableKeeps u v) : TableKeeps s v where
  firing f := k.firing (h.firing f)
  solo f := k.solo (h.solo f)
  mask f g m := k.mask (h.firing f) (h.solo g) (h.mask f g m)
  bounded b := k.bounded ⟨h.bounded b, h.config b.2⟩
  list f := k.list (h.list f)
  config f := k.config (h.config f)
  store f := k.store (h.store f)

theorem Writes.table (h : Writes s t) : TableKeeps s t where
  firing := h.firing
  solo := h.solo
  mask _ _ := h.mask
  bounded b := (h.bounded b).1
  list := listLaw_of_fixed h.fixed
  config := configLaw_of_fixed h.fixed
  store := storeLaw_of_fixed h.fixed

/-- The laws of every block but the link's are kept. -/
structure Core (s t : State) : Prop where
  table : TableKeeps s t
  pause : PauseLaw s → PauseLaw t
  door : DoorLaw s → DoorLaw t
  run : RunLaw s → RunLaw t

theorem Core.trans (h : Core s u) (k : Core u v) : Core s v where
  table := h.table.trans k.table
  pause f := k.pause (h.pause f)
  door f := k.door (h.door f)
  run f := k.run (h.run f)

/-- The receive side and the response of the link (R175, R177). -/
def linkFraming (f : Lif) : Rx × Nat × List Byte × Bool × Option Response := (f.rx, f.length, f.buffer, f.gap, f.response)

theorem framing_of_fixed (h : fixedView t = fixedView s) : linkFraming t.lif = linkFraming s.lif := by
  have e : fixedLif t.lif = fixedLif s.lif := congrArg FixedView.lif h
  simp only [fixedLif, Prod.mk.injEq] at e
  simp only [linkFraming, e]

/-- The laws of every block are kept; of the link, the receive side stands, and the silence timer follows the mode. -/
structure Keeps (s t : State) : Prop extends Core s t where
  silence : SilenceFor (ovenMode s) s → SilenceFor (ovenMode t) t
  heard : s.lif.silent = false → t.lif.silent = false
  framing : linkFraming t.lif = linkFraming s.lif

theorem Keeps.trans (h : Keeps s u) (k : Keeps u v) : Keeps s v where
  toCore := h.toCore.trans k.toCore
  silence f := k.silence (h.silence f)
  heard f := k.heard (h.heard f)
  framing := k.framing.trans h.framing

theorem fanFollows_opened (h : FanFollows s) (door : s.dlu.door = .opened) : s.ldt.aux.fan = .off := by
  rw [h, fanValue, if_pos door]

theorem GoesOn.doorLaw (g : GoesOn s t) (h : DoorLaw s) : DoorLaw t where
  door l := by rw [(g.masks l).1, g.dlu]; exact h.door l
  fan opened := by
    obtain ⟨fan, -⟩ | follows := g.fan
    · rw [fan]; exact h.fan (g.dlu ▸ opened)
    · exact fanFollows_opened follows opened
  lamp := g.lamp h.lamp
  fault l := by rw [(g.masks l).2, g.dlu]; exact h.fault l
  cool := by rw [g.coolFan, g.dlu]; exact h.cool
  causes := by rw [g.dlu]; exact h.causes

theorem StepActs.kept (h : StepActs s t) : Keeps s t where
  table := h.writes.table
  pause := h.pauseLaw
  door := h.goesOn.doorLaw
  run := h.runLaw
  silence := h.goesOn.silence
  heard := h.goesOn.heard
  framing := framing_of_fixed h.writes.fixed

theorem Keeps.refl : Keeps s s := StepActs.refl.kept

theorem Keeps.acts (h : Keeps s u) (k : StepActs u v) : Keeps s v := h.trans k.kept

theorem Keeps.boiler (h : Keeps s u) (k : BoilerMoves u v) : Keeps s v := h.acts (StepActs.refl.boiler k)

theorem keeps_ite {p : Prop} [Decidable p] (ht : Keeps s u) (hf : Keeps s v) : Keeps s (if p then u else v) := by
  split
  · exact ht
  · exact hf

/-! ## Beside the run -/

/-- The link's receive side, response and silence timer. -/
def linkView (f : Lif) : (Rx × Nat × List Byte × Bool × Option Response) × Bool × Bool := (linkFraming f, f.silence, f.silent)

/-- The run, the climate and the oven mode stand, and so do the pause masks and the link. -/
structure Beside (s t : State) : Prop where
  run : t.run = s.run
  climate : t.clc.climate = s.clc.climate
  timer : t.clc.loopTimer = s.clc.loopTimer
  service : t.svc.service = s.svc.service
  latch : t.dlu.latch = s.dlu.latch
  pause : ∀ l, (load t l).mask.pause = (load s l).mask.pause
  link : linkView t.lif = linkView s.lif

theorem Beside.silence (b : Beside s t) : t.lif.silence = s.lif.silence := congrArg (fun v => v.2.1) b.link

theorem Beside.silent (b : Beside s t) : t.lif.silent = s.lif.silent := congrArg (fun v => v.2.2) b.link

theorem Beside.framing (b : Beside s t) : linkFraming t.lif = linkFraming s.lif := congrArg Prod.fst b.link

theorem Beside.refl : Beside s s := ⟨rfl, rfl, rfl, rfl, rfl, fun _ => rfl, rfl⟩

theorem Beside.trans (h : Beside s u) (k : Beside u v) : Beside s v :=
  ⟨k.run.trans h.run, k.climate.trans h.climate, k.timer.trans h.timer, k.service.trans h.service, k.latch.trans h.latch,
    fun l => (k.pause l).trans (h.pause l), k.link.trans h.link⟩

theorem Beside.mode (b : Beside s t) : ovenMode t = ovenMode s := by simp only [ovenMode, b.run, b.service, b.latch]

theorem Beside.pauseLaw (b : Beside s t) (h : PauseLaw s) : PauseLaw t :=
  ⟨fun l => by rw [b.pause, b.run]; exact h.masks l, by rw [b.run]; exact h.taken⟩

theorem Beside.runLaw (b : Beside s t) (h : RunLaw s) : RunLaw t := by
  rw [runLaw_iff, b.run, b.climate, b.timer, b.service]
  exact runLaw_iff.1 h

theorem Beside.silenceFor (b : Beside s t) (h : SilenceFor (ovenMode s) s) : SilenceFor (ovenMode t) t := by
  rw [b.mode, SilenceFor, b.silence, b.silent]
  exact h

/-- The door unit and its outputs stand too. -/
structure Aside (s t : State) : Prop extends Beside s t where
  doorState : t.dlu.door = s.dlu.door
  causes : t.dlu.causeLimit = s.dlu.causeLimit ∧ t.dlu.causeSensor = s.dlu.causeSensor
  marks : ∀ l, (load t l).mask.door = (load s l).mask.door ∧ (load t l).mask.faultMode = (load s l).mask.faultMode
  aux : t.ldt.aux = s.ldt.aux

theorem Aside.refl : Aside s s := ⟨.refl, rfl, ⟨rfl, rfl⟩, fun _ => ⟨rfl, rfl⟩, rfl⟩

theorem Aside.trans (h : Aside s u) (k : Aside u v) : Aside s v :=
  ⟨h.toBeside.trans k.toBeside, k.doorState.trans h.doorState, ⟨k.causes.1.trans h.causes.1, k.causes.2.trans h.causes.2⟩,
    fun l => ⟨(k.marks l).1.trans (h.marks l).1, (k.marks l).2.trans (h.marks l).2⟩, k.aux.trans h.aux⟩

theorem Aside.doorLaw (a : Aside s t) (h : DoorLaw s) : DoorLaw t where
  door l := by rw [(a.marks l).1, a.doorState]; exact h.door l
  fan := by rw [a.doorState, a.aux]; exact h.fan
  lamp := by rw [a.mode, a.doorState, a.aux]; exact h.lamp
  fault l := by rw [(a.marks l).2, a.latch]; exact h.fault l
  cool := by rw [a.aux, a.latch]; exact h.cool
  causes := by rw [a.latch, a.causes.1, a.causes.2]; exact h.causes

theorem Aside.kept (a : Aside s t) (table : TableKeeps s t) : Keeps s t :=
  ⟨⟨table, a.pauseLaw, a.doorLaw, a.runLaw⟩, a.silenceFor, fun h => a.silent.trans h, a.framing⟩

/-- What leaves the mask, the run, the climate and the door unit's records alone stands aside. -/
theorem aside_of_same (run : t.run = s.run) (clc : (t.clc.climate, t.clc.loopTimer) = (s.clc.climate, s.clc.loopTimer))
    (service : t.svc.service = s.svc.service)
    (dlu : (t.dlu.latch, t.dlu.door, t.dlu.causeLimit, t.dlu.causeSensor)
      = (s.dlu.latch, s.dlu.door, s.dlu.causeLimit, s.dlu.causeSensor))
    (mask : ∀ l, (load t l).mask = (load s l).mask) (aux : t.ldt.aux = s.ldt.aux)
    (lif : linkView t.lif = linkView s.lif) : Aside s t := by
  simp only [Prod.mk.injEq] at clc dlu
  exact ⟨⟨run, clc.1, clc.2, service, dlu.1, fun l => by rw [mask], lif⟩, dlu.2.1, dlu.2.2,
    fun l => by rw [mask]; exact ⟨rfl, rfl⟩, aux⟩

theorem putReason_lif (b : Bool) (r : Reason) (l : LoadId) (s : State) :
    (putReason b r l s).lif = s.lif ∧ (putReason b r l s).pst = s.pst := by
  cases b
  · exact ⟨rfl, rfl⟩
  · simp only [putReason, if_true, addReason]
    split
    · exact ⟨rfl, rfl⟩
    · exact ⟨withdraw_lif .., withdraw_pst ..⟩

/-- A mask reason that neither the run nor the door unit owns. -/
theorem aside_putReason {r : Reason} (pause : r ≠ .pause) (door : r ≠ .door) (fault : r ≠ .faultMode) (b : Bool) (l : LoadId)
    (s : State) : Aside s (putReason b r l s) := by
  obtain ⟨clc, -, run, -⟩ := putReason_blocks b r l s
  have view := doorView_putReason door fault b l s
  have dlu := congrArg DoorView.dlu view
  have svc := congrArg DoorView.svc view
  simp only [doorView] at dlu svc
  exact ⟨⟨run, by rw [clc], by rw [clc], by rw [svc], by rw [dlu], fun k => putReason_has pause.symm b l k s,
    by rw [(putReason_lif b r l s).1]⟩,
    by rw [dlu], by rw [dlu]; exact ⟨rfl, rfl⟩, doorView_masks view, putReason_aux b r l s⟩

/-- A rewriting of a load record that keeps its mask stands aside. -/
theorem aside_updLoad {f : Load → Load} (mask : ∀ d, (f d).mask = d.mask) (l : LoadId) (s : State) :
    Aside s (updLoad f l s) := by
  refine aside_of_same rfl rfl rfl rfl (fun k => ?_) rfl rfl
  rw [load_updLoad]
  split
  · subst k; exact mask _
  · rfl

/-! ## The door (R166 to R168) -/

/-- A write of the door unit reaches no table. -/
theorem table_dlu (d : Dlu) : TableKeeps s { s with dlu := d } where
  firing := firingLaw_congr rfl rfl
  solo := soloLaw_congr rfl rfl
  mask _ _ := maskLaw_congr rfl rfl
  bounded b := rangeLaw_congr (s := s) rfl rfl rfl rfl rfl b.1
  list := listLaw_congr rfl rfl
  config := configLaw_congr rfl rfl rfl
  store := storeLaw_congr rfl rfl

/-- The debounce timer and the input are written. -/
theorem keeps_timers (s : State) (d : Dlu) (h : (d.latch, d.door, d.causeLimit, d.causeSensor)
    = (s.dlu.latch, s.dlu.door, s.dlu.causeLimit, s.dlu.causeSensor)) : Keeps s { s with dlu := d } :=
  (aside_of_same (s := s) (t := { s with dlu := d }) rfl rfl rfl h (fun _ => rfl) rfl rfl).kept (table_dlu d)

/-- The door state is written, and DOOR, FAN and LAMP follow it (R167). -/
def doorOpened (s : State) : State :=
  evalLamp (evalFan (addReasonTo .door elements { s with dlu := { s.dlu with door := .opened } }))

/-- The door state is written, and DOOR, FAN and LAMP follow it (R168). -/
def doorClosed (s : State) : State :=
  evalLamp (evalFan (removeReasonFrom .door elements { s with dlu := { s.dlu with door := .closed } }))

theorem doorOpens_eq (s : State) : doorOpens s = pauseForDoor (doorOpened s) := rfl

theorem doorCloses_eq (s : State) : doorCloses s = settleRun (dropPause .door (doorClosed s)) := rfl

theorem addReasonTo_beside {r : Reason} (h : r ≠ .pause) (ls : List LoadId) (s : State) : Beside s (addReasonTo r ls s) := by
  have blocks (l : LoadId) (u : State) :
      (fun w : State => (w.run, w.clc, w.svc, w.dlu, w.lif)) (putReason true r l u)
        = (fun w : State => (w.run, w.clc, w.svc, w.dlu, w.lif)) u := by
    simp only [putReason, if_true, addReason]
    split
    · rfl
    · simp
  have e := addReasonTo_view (view := fun w : State => (w.run, w.clc, w.svc, w.dlu, w.lif)) blocks ls s
  simp only [Prod.mk.injEq] at e
  obtain ⟨run, clc, svc, dlu, lif⟩ := e
  exact ⟨run, by rw [clc], by rw [clc], by rw [svc], by rw [dlu],
    fun l => (addReasonTo_has r .pause ls l s).trans (by rw [beq_false_of_ne h.symm]; rfl), by rw [lif]⟩

theorem removeReasonFrom_blocks {α : Type} {view : State → α} (h : ∀ f l u, view (updLoad f l u) = view u) (r : Reason)
    (ls : List LoadId) (s : State) : view (removeReasonFrom r ls s) = view s :=
  view_foldl (fun s l => h _ l s) ls s

theorem removeReasonFrom_beside {r : Reason} (h : r ≠ .pause) (ls : List LoadId) (s : State) :
    Beside s (removeReasonFrom r ls s) := by
  have e := removeReasonFrom_blocks (view := fun w : State => (w.run, w.clc, w.svc, w.dlu, w.lif)) (fun _ _ _ => rfl) r ls s
  simp only [Prod.mk.injEq] at e
  obtain ⟨run, clc, svc, dlu, lif⟩ := e
  exact ⟨run, by rw [clc], by rw [clc], by rw [svc], by rw [dlu],
    fun l => (removeReasonFrom_has r .pause ls l s).trans (by rw [beq_false_of_ne h.symm]; rfl), by rw [lif]⟩

theorem addReasonTo_aux (r : Reason) (ls : List LoadId) (s : State) : (addReasonTo r ls s).ldt.aux = s.ldt.aux :=
  addReasonTo_view (view := fun u => u.ldt.aux) (fun l u => putReason_aux true r l u) ls s

theorem removeReasonFrom_aux (r : Reason) (ls : List LoadId) (s : State) : (removeReasonFrom r ls s).ldt.aux = s.ldt.aux :=
  removeReasonFrom_blocks (view := fun u => u.ldt.aux) (fun _ _ _ => rfl) r ls s

theorem beside_setAux (a : Aux) (s : State) : Beside s (setAux a s) :=
  ⟨setAux_run a s, by rw [setAux_clc], by rw [setAux_clc], by rw [setAux_svc], by rw [setAux_dlu],
    fun l => by rw [load_setAux], by rw [setAux_lif]⟩

theorem addReasonTo_dlu (r : Reason) (ls : List LoadId) (s : State) : (addReasonTo r ls s).dlu = s.dlu :=
  addReasonTo_view (view := State.dlu) (fun l u => by
    simp only [putReason, if_true, addReason]
    split
    · rfl
    · simp) ls s

theorem removeReasonFrom_dlu (r : Reason) (ls : List LoadId) (s : State) : (removeReasonFrom r ls s).dlu = s.dlu :=
  removeReasonFrom_blocks (fun _ _ _ => rfl) r ls s

/-- LAMP and FAN set anew after a change of the DOOR masks: what the door law asks, where the masks and the latch are right. -/
theorem doorLaw_evalLampFan (door : ∀ l, (load s l).mask.door = (s.dlu.door == .opened && l != .boiler))
    (fault : ∀ l, (load s l).mask.faultMode = s.dlu.latch) (cool : s.ldt.aux.coolFan = s.dlu.latch)
    (causes : s.dlu.latch = (s.dlu.causeLimit || s.dlu.causeSensor)) : DoorLaw (evalLamp (evalFan s)) := by
  have dlu : (evalLamp (evalFan s)).dlu = s.dlu := by simp only [evalLamp, evalFan, setAux_dlu]
  have mode : ovenMode (evalFan s) = ovenMode s := (beside_setAux _ s).mode
  have fan : (evalFan s).ldt.aux = { s.ldt.aux with fan := fanValue s } := setAux_aux _ s
  have aux : (evalLamp (evalFan s)).ldt.aux
      = { s.ldt.aux with fan := fanValue s, lamp := s.dlu.door == .opened || ovenMode s == .running } := by
    refine (setAux_aux _ _).trans ?_
    rw [fan, mode]
    rw [show (evalFan s).dlu = s.dlu from setAux_dlu _ _]
  have hl (l : LoadId) : load (evalLamp (evalFan s)) l = load s l := by
    simp only [evalLamp, evalFan, load_setAux]
  constructor
  · intro l; rw [hl, dlu]; exact door l
  · intro opened
    rw [dlu] at opened
    rw [aux]
    exact if_pos opened
  · rw [aux, dlu, evalLamp_mode, mode]
  · intro l; rw [hl, dlu]; exact fault l
  · rw [aux, dlu]; exact cool
  · rw [dlu]; exact causes

theorem bne_boiler (l : LoadId) : decide (l ∈ elements) = (l != .boiler) := by cases l <;> rfl

theorem doorLaw_opened (h : DoorLaw s) : DoorLaw (doorOpened s) := by
  have dlu := addReasonTo_dlu .door elements { s with dlu := { s.dlu with door := .opened } }
  have has (q : Reason) (l : LoadId) := addReasonTo_has .door q elements l { s with dlu := { s.dlu with door := .opened } }
  refine doorLaw_evalLampFan (fun l => (has .door l).trans ?_) (fun l => (has .faultMode l).trans ?_) ?_ ?_
  · have off : (load s l).mask.door = (s.dlu.door == .opened && l != .boiler) := h.door l
    rw [dlu, bne_boiler]
    show (l != .boiler || (load s l).mask.door) = (l != .boiler)
    rw [off]
    cases l != .boiler <;> simp
  · rw [dlu]; exact h.fault l
  · rw [addReasonTo_aux, dlu]; exact h.cool
  · rw [dlu]; exact h.causes

theorem doorLaw_closed (h : DoorLaw s) : DoorLaw (doorClosed s) := by
  have dlu := removeReasonFrom_dlu .door elements { s with dlu := { s.dlu with door := .closed } }
  have has (q : Reason) (l : LoadId) :=
    removeReasonFrom_has .door q elements l { s with dlu := { s.dlu with door := .closed } }
  refine doorLaw_evalLampFan (fun l => (has .door l).trans ?_) (fun l => (has .faultMode l).trans ?_) ?_ ?_
  · have off : (load s l).mask.door = (s.dlu.door == .opened && l != .boiler) := h.door l
    rw [dlu, bne_boiler]
    show (!(l != .boiler) && (load s l).mask.door) = false
    rw [off]
    cases l != .boiler <;> simp
  · rw [dlu]; exact h.fault l
  · rw [removeReasonFrom_aux, dlu]; exact h.cool
  · rw [dlu]; exact h.causes

theorem beside_dluDoor (d : DoorState) : Beside s { s with dlu := { s.dlu with door := d } } :=
  ⟨rfl, rfl, rfl, rfl, rfl, fun _ => rfl, rfl⟩

theorem Beside.kept (b : Beside s t) (table : TableKeeps s t) (door : DoorLaw s → DoorLaw t) : Keeps s t :=
  ⟨⟨table, b.pauseLaw, door, b.runLaw⟩, b.silenceFor, fun h => b.silent.trans h, b.framing⟩

theorem beside_doorOpened (s : State) : Beside s (doorOpened s) :=
  (((beside_dluDoor _).trans (addReasonTo_beside (by decide) _ _)).trans (beside_setAux _ _)).trans (beside_setAux _ _)

theorem beside_doorClosed (s : State) : Beside s (doorClosed s) :=
  (((beside_dluDoor _).trans (removeReasonFrom_beside (by decide) _ _)).trans (beside_setAux _ _)).trans (beside_setAux _ _)

theorem writes_doorOpened (h : Writes s u) : Writes s (doorOpened u) :=
  writes_evalLamp (writes_evalFan (writes_addReasonTo (writes_dlu h _) (by decide) (by decide) _))

theorem writes_doorClosed (h : Writes s u) : Writes s (doorClosed u) :=
  writes_evalLamp (writes_evalFan (writes_removeReasonFrom (writes_dlu h _) (by decide) (by decide) _))

theorem keeps_addPause (r : PauseReason) (s : State) : Keeps s (addPause r s) where
  table := (writes_addPause .refl r).table
  pause := pauseLaw_addPause r
  door := ((runsOn_addPause r s).goesOn ((runsOn_addPause r s).mode (by rw [addPause_run]))).doorLaw
  run h := by
    obtain ⟨awaiting, ending, outcome, latched, slot, hold, climate, timer, service⟩ := runLaw_iff.1 h
    rw [runLaw_iff, addPause_run, addPause_clc, show (addPause r s).svc = s.svc from
      congrArg DoorView.svc (addPause_doorView r s)]
    exact ⟨awaiting, ending, outcome, latched, slot, hold, climate, timer, service⟩
  silence := ((runsOn_addPause r s).goesOn ((runsOn_addPause r s).mode (by rw [addPause_run]))).silence
  heard := ((runsOn_addPause r s).goesOn ((runsOn_addPause r s).mode (by rw [addPause_run]))).heard
  framing := framing_of_fixed (fixed_addPause r s)

theorem keeps_pauseForDoor (h : Keeps s u) : Keeps s (pauseForDoor u) :=
  keeps_ite ((h.trans (keeps_addPause _ u)).acts (acts_raise .refl _)) h

theorem keeps_doorOpens (h : Keeps s u) : Keeps s (doorOpens u) := by
  rw [doorOpens_eq]
  exact keeps_pauseForDoor (h.trans ((beside_doorOpened u).kept (writes_doorOpened .refl).table doorLaw_opened))

theorem keeps_doorCloses (h : Keeps s u) : Keeps s (doorCloses u) := by
  rw [doorCloses_eq]
  exact (h.trans ((beside_doorClosed u).kept (writes_doorClosed .refl).table doorLaw_closed)).acts
    (acts_settleRun (acts_dropPause .refl _))

theorem keeps_doorSwitch (level : DoorLevel) (s : State) : Keeps s (doorSwitch level s) :=
  keeps_timers s _ rfl

theorem keeps_debounceExpires (s : State) : Keeps s (debounceExpires s) := by
  have stopped : Keeps s { s with dlu := { s.dlu with debounce := false } } := keeps_timers s _ rfl
  refine keeps_ite (keeps_ite ?_ stopped) .refl
  unfold doorTakes
  split
  · exact keeps_doorOpens stopped
  · exact keeps_doorCloses stopped

end Sys2Proof.Machine
end

section
/-!
SUPPORT. What the events at the fault latch, the start of a run, INIT and the loop timer keep.
-/

namespace Sys2Proof.Machine

variable {s t u v : State}

/-! ## FAN and the climate controller's own events -/

theorem keeps_evalFan (s : State) : Keeps s (evalFan s) :=
  have on : RunsOn s (evalFan s) :=
    ⟨doorView_of_inner (inner_evalFan s), .inr (fanFollows_evalFan s), pauseMasks_of_inner (inner_evalFan s)⟩
  (beside_setAux _ s).kept (writes_evalFan .refl).table (on.goesOn (beside_setAux _ s).mode).doorLaw

theorem quiet_loopUpdate (s : State) : Quiet s (loopUpdate s) := by
  refine ⟨inner_loopUpdate s, loopUpdate_climate s, loopUpdate_loopTimer s, ?_⟩
  unfold loopUpdate handToBoiler
  rw [(boiler_judgeBoiler .refl).quiet.fan]
  show (evalVent _).ldt.aux.fan = _
  rw [evalVent, setAux_aux]
  obtain e | ⟨heat, i16, -, -, e⟩ := heatUpdate_cases s
  · rw [e]
  · rw [e]
    show (writeDemands _ _).ldt.aux.fan = _
    unfold writeDemands
    split <;> rfl

theorem keeps_restartLoopTimer (s : State) : Keeps s (restartLoopTimer s) where
  table := (writes_restartLoopTimer .refl).table
  pause h := ⟨h.masks, h.taken⟩
  door h := ⟨h.door, h.fan, h.lamp, h.fault, h.cool, h.causes⟩
  run h := by
    refine ⟨h.awaiting, h.ending, h.outcome, h.latched, h.slot, h.hold, h.climate, ?_, h.service⟩
    by_cases c : s.clc.climate.kind = .none <;> simp [restartLoopTimer, c]
  silence := id
  heard := id
  framing := rfl

theorem keeps_loopExpires (s : State) : Keeps s (loopExpires s) :=
  keeps_ite ((StepActs.refl.tail (.quiet (writes_loopUpdate .refl) (quiet_loopUpdate s))).kept.trans
    (keeps_restartLoopTimer _)) .refl

theorem acts_moistureFaults (h : StepActs s u) : StepActs s (moistureFaults u) := by
  refine h.tail (.quiet (writes_moistureFaults .refl) ?_)
  unfold moistureFaults
  split
  · exact Quiet.trans (u := { u with clc := { u.clc with humid := 500 }, sgc := { u.sgc with
      share := u.sgc.share, humQuanta := humQuantaOf 500, needsSteam := climateNeedsSteam u.clc.climate } })
      ⟨rfl, rfl, rfl, rfl⟩ (boiler_judgeBoiler .refl).quiet
  · exact .refl

theorem acts_changeSetpoint (h : StepActs s u) (x : Int) : StepActs s (changeSetpoint x u) :=
  acts_ite h (h.tail (.setpoints _ rfl))

theorem acts_changeHumSet (h : StepActs s u) (x : Int) : StepActs s (changeHumSet x u) :=
  acts_ite h (h.tail (.setpoints _ rfl))

theorem acts_sendSetpoints (h : StepActs s u) (old new : Latched) : StepActs s (sendSetpoints old new u) := by
  have temp : StepActs s (match new.temp with
      | some t => if old.temp = new.temp then u else changeSetpoint t u
      | .none => u) := by
    split
    · exact acts_ite h (acts_changeSetpoint h _)
    · exact h
  unfold sendSetpoints
  dsimp only
  split
  · exact acts_ite temp (acts_changeHumSet temp _)
  · exact temp

/-- A write of the latched quantities and the marks of a current step. -/
theorem acts_latched (h : StepActs s u) (r : Run) (current : hasCurrent u = true)
    (core : runCore r = runCore u.run := by rfl)
    (counts : (r.elapsedS, r.totalS, r.holdS) = (u.run.elapsedS, u.run.totalS, u.run.holdS) := by rfl) :
    StepActs s { u with run := r } := by
  simp only [Prod.mk.injEq] at counts
  obtain ⟨elapsed, total, hold⟩ := counts
  refine h.tail (.record r core (fun no => by simp [current] at no) (fun c => ?_) (.inl hold))
  rwa [RunRange, elapsed, total, hold]

theorem currentStep_current {st : Step} (h : currentStep s = some st) : hasCurrent s = true := by
  unfold currentStep at h
  split at h <;> simp_all [hasCurrent]

theorem acts_recompute (h : StepActs s u) (i : Fin 8) : StepActs s (recompute i u) := by
  unfold recompute
  split
  · exact acts_sendSetpoints (acts_latched h _ (currentStep_current ‹_›)) _ _
  · exact h

/-! ## The fault latch (R169 to R171) -/

theorem acts_faultRun (h : StepActs s u) : StepActs s (faultRun u) := by
  unfold faultRun
  split
  · exact h
  · exact h.tail (.faultCause ‹_›)
  all_goals
    rename_i state
    exact acts_enterEnding h _ (by simp [state])

/-- A write of the latch with FAULT_MODE, COOL_FAN, LAMP and the silence timer after it, the run still as it was. -/
theorem keeps_latch {d : Dlu} (writes : Writes s t) (dlu : t.dlu = d) (door : d.door = s.dlu.door)
    (causes : d.latch = (d.causeLimit || d.causeSensor)) (run : t.run = s.run) (clc : t.clc = s.clc)
    (service : t.svc.service = s.svc.service)
    (marks : ∀ l, (load t l).mask.pause = (load s l).mask.pause ∧ (load t l).mask.door = (load s l).mask.door)
    (fault : ∀ l, (load t l).mask.faultMode = d.latch) (fan : t.ldt.aux.fan = s.ldt.aux.fan)
    (cool : t.ldt.aux.coolFan = d.latch) (lamp : LampFor (ovenMode s) s → LampFor (ovenMode t) t)
    (silence : SilenceFor (ovenMode s) s → SilenceFor (ovenMode t) t)
    (heard : s.lif.silent = false → t.lif.silent = false) : Keeps s t where
  table := writes.table
  pause h := ⟨fun l => by rw [(marks l).1, run]; exact h.masks l, by rw [run]; exact h.taken⟩
  door h := by
    refine ⟨fun l => ?_, fun opened => ?_, lamp h.lamp, fun l => by rw [fault, dlu], by rw [cool, dlu], by rw [dlu]; exact causes⟩
    · rw [(marks l).2, dlu, door]; exact h.door l
    · rw [fan]; exact h.fan (by rwa [dlu, door] at opened)
  run h := by rw [runLaw_iff, run, clc, service]; exact runLaw_iff.1 h
  silence := silence
  heard := heard
  framing := framing_of_fixed writes.fixed

/-- FAULT mode entry before the run meets it (R169). -/
def faultEntered (d : Dlu) (s : State) : State :=
  let u := noteMode (ovenMode s) { s with dlu := d }
  raise .faultMode (setAux { u.ldt.aux with coolFan := true } (addReasonTo .faultMode allLoads u))

theorem addReasonTo_frame {view : State → Dlu × Run × Clc × Svc × Lif} (r : Reason) (ls : List LoadId) (s : State)
    (eq : view = fun u => (u.dlu, u.run, u.clc, u.svc, u.lif) := by rfl) : view (addReasonTo r ls s) = view s := by
  subst eq
  refine addReasonTo_view (view := fun u : State => (u.dlu, u.run, u.clc, u.svc, u.lif)) (fun l u => ?_) ls s
  simp only [putReason, if_true, addReason]
  split
  · rfl
  · simp

theorem lampFor_congr {m : OvenMode} (dlu : t.dlu = s.dlu) (lamp : t.ldt.aux.lamp = s.ldt.aux.lamp) (h : LampFor m s) :
    LampFor m t := by rwa [LampFor, dlu, lamp]

theorem silenceFor_congr {m : OvenMode} (lif : (t.lif.silence, t.lif.silent) = (s.lif.silence, s.lif.silent))
    (h : SilenceFor m s) : SilenceFor m t := by
  simp only [Prod.mk.injEq] at lif
  rwa [SilenceFor, lif.1, lif.2]

theorem keeps_faultEntered {d : Dlu} (cause : (d.causeLimit || d.causeSensor) = true)
    (timers : (d.door, d.input, d.debounce) = (s.dlu.door, s.dlu.input, s.dlu.debounce) := by rfl)
    (latch : d.latch = true := by rfl) : Keeps s (faultEntered d s) := by
  simp only [Prod.mk.injEq] at timers
  obtain ⟨door, input, debounce⟩ := timers
  have writes : Writes s (faultEntered d s) :=
    writes_raise (writes_setAux (writes_addReasonTo (writes_noteMode (writes_dlu .refl d (by rw [input, debounce])) _)
      (by decide) (by decide) _) _) _
  have n := noteMode_noted (ovenMode s) { s with dlu := d }
  have frame := addReasonTo_frame .faultMode allLoads (noteMode (ovenMode s) { s with dlu := d }) rfl
  have has (q : Reason) (l : LoadId) := addReasonTo_has .faultMode q allLoads l (noteMode (ovenMode s) { s with dlu := d })
  have lampNoted := noteMode_lamp (old := ovenMode s) (s := { s with dlu := d })
  have silenceNoted := noteMode_silence (old := ovenMode s) (s := { s with dlu := d })
  have heardNoted := noteMode_heard (old := ovenMode s) (s := { s with dlu := d })
  unfold faultEntered at writes ⊢
  dsimp only at frame writes ⊢
  generalize noteMode (ovenMode s) { s with dlu := d } = w at *
  generalize addReasonTo .faultMode allLoads w = x at *
  simp only [Prod.mk.injEq] at frame
  obtain ⟨fdlu, frun, fclc, fsvc, flif⟩ := frame
  have lif : (raise .faultMode (setAux { w.ldt.aux with coolFan := true } x)).lif.silence = w.lif.silence
      ∧ (raise .faultMode (setAux { w.ldt.aux with coolFan := true } x)).lif.silent = w.lif.silent := by
    simp only [raise, setAux_lif, flif, and_self]
  have mode : ovenMode (raise .faultMode (setAux { w.ldt.aux with coolFan := true } x)) = ovenMode w := by
    refine ovenMode_congr ?_ ?_ ?_ <;> simp only [raise_svc, raise_dlu, raise_run, setAux_svc, setAux_dlu, setAux_run, fdlu, frun,
      fsvc]
  have mask (q : Reason) (l : LoadId) : (load (raise .faultMode (setAux { w.ldt.aux with coolFan := true } x)) l).mask.has q
      = (q == .faultMode || (load s l).mask.has q) := by
    rw [raise_load, load_setAux, has, n.load]
    simp [mem_allLoads, load]
  refine keeps_latch (d := d) writes ?_ door (by rw [latch, cause]) ?_ ?_ ?_ (fun l => ⟨mask .pause l, mask .door l⟩)
    (fun l => (mask .faultMode l).trans latch.symm) ?_ ?_ (fun h => ?_) (fun h => ?_) (fun h => ?_)
  · rw [raise_dlu, setAux_dlu, fdlu, n.dlu]
  · rw [raise_run, setAux_run, frun, n.run]
  · rw [raise_clc, setAux_clc, fclc, n.clc]
  · rw [raise_svc, setAux_svc, fsvc, n.svc]
  · rw [raise_ldt, setAux_aux]; show w.ldt.aux.fan = _; rw [n.aux]
  · rw [raise_ldt, setAux_aux, latch]
  · rw [mode]
    refine lampFor_congr (s := w) (by rw [raise_dlu, setAux_dlu, fdlu]) ?_ (lampNoted ?_)
    · rw [raise_ldt, setAux_aux]
    · show s.ldt.aux.lamp = (d.door == .opened || ovenMode s == .running)
      rw [door]; exact h
  · rw [mode]
    exact silenceFor_congr (s := w) (Prod.ext lif.1 lif.2) (silenceNoted h)
  · rw [lif.2]; exact heardNoted h

/-- A cause is added to a latch that is set (R170). -/
theorem keeps_cause {d : Dlu} (held : s.dlu.latch = true) (cause : (d.causeLimit || d.causeSensor) = true)
    (same : (d.door, d.input, d.debounce, d.latch) = (s.dlu.door, s.dlu.input, s.dlu.debounce, s.dlu.latch) := by rfl) :
    Keeps s { s with dlu := d } := by
  simp only [Prod.mk.injEq] at same
  obtain ⟨door, -, -, latch⟩ := same
  have b : Beside s { s with dlu := d } := ⟨rfl, rfl, rfl, rfl, latch, fun _ => rfl, rfl⟩
  refine b.kept (table_dlu d) fun h => ⟨fun l => ?_, fun opened => ?_, ?_, fun l => ?_, ?_, ?_⟩
  · show _ = (d.door == .opened && _); rw [door]; exact h.door l
  · exact h.fan (door ▸ opened)
  · rw [b.mode]; show _ = (d.door == .opened || _); rw [door]; exact h.lamp
  · show _ = d.latch; rw [latch]; exact h.fault l
  · show _ = d.latch; rw [latch]; exact h.cool
  · show d.latch = _; rw [latch, held, cause]

theorem limitCause_eq (s : State) : limitCause s = if !s.dlu.latch then
    faultRun (faultEntered { s.dlu with causeLimit := true, latch := true } s)
    else { s with dlu := { s.dlu with causeLimit := true } } := rfl

theorem sensorCause_eq (s : State) : sensorCause s = if !s.dlu.latch then
    faultRun (faultEntered { s.dlu with causeSensor := true, latch := true } s)
    else { s with dlu := { s.dlu with causeSensor := true } } := rfl

theorem keeps_limitCause (s : State) : Keeps s (limitCause s) := by
  rw [limitCause_eq]
  split
  · exact (keeps_faultEntered (by rfl)).acts (acts_faultRun .refl)
  · rename_i held
    exact keeps_cause (by simpa using held) (by rfl)

theorem keeps_sensorCause (s : State) : Keeps s (sensorCause s) := by
  rw [sensorCause_eq]
  split
  · exact (keeps_faultEntered (Bool.or_true _)).acts (acts_faultRun .refl)
  · rename_i held
    exact keeps_cause (by simpa using held) (Bool.or_true _)

theorem keeps_limitCavitySample (x : Int) (s : State) : Keeps s (limitCavitySample x s) :=
  keeps_ite (keeps_limitCause s) .refl

theorem keeps_cavitySample (x : Int) (s : State) : Keeps s (cavitySample x s) := by
  have fan := keeps_evalFan s
  have engineFirst : Keeps s (limitCavitySample x (runCavitySample x (evalFan s))) :=
    (fan.acts (acts_runCavitySample .refl x)).trans (keeps_limitCavitySample x _)
  unfold cavitySample
  refine keeps_ite (keeps_ite ?_ engineFirst) engineFirst
  exact (fan.trans (keeps_limitCavitySample x _)).acts (acts_runCavitySample .refl x)

theorem removeReasonFrom_frame {view : State → Dlu × Run × Clc × Svc × Lif} (r : Reason) (ls : List LoadId) (s : State)
    (eq : view = fun u => (u.dlu, u.run, u.clc, u.svc, u.lif) := by rfl) : view (removeReasonFrom r ls s) = view s := by
  subst eq
  exact removeReasonFrom_blocks (view := fun u : State => (u.dlu, u.run, u.clc, u.svc, u.lif)) (fun _ _ _ => rfl) r ls s

/-- FAULT_MODE and COOL_FAN gone, the mode not yet noted (R171). -/
def faultLifted (s : State) : State :=
  let u := removeReasonFrom .faultMode allLoads
    { s with dlu := { s.dlu with latch := false, causeLimit := false, causeSensor := false } }
  setAux { u.ldt.aux with coolFan := false } u

theorem clearOvenFault_eq (s : State) : clearOvenFault s = noteMode (ovenMode s) (faultLifted s) := rfl

theorem faultLifted_frame (s : State) : (faultLifted s).dlu = { s.dlu with latch := false, causeLimit := false, causeSensor := false }
    ∧ (faultLifted s).run = s.run ∧ (faultLifted s).clc = s.clc ∧ (faultLifted s).svc = s.svc ∧ (faultLifted s).lif = s.lif := by
  have frame := removeReasonFrom_frame .faultMode allLoads
    { s with dlu := { s.dlu with latch := false, causeLimit := false, causeSensor := false } } rfl
  simp only [Prod.mk.injEq] at frame
  simpa only [faultLifted, setAux_dlu, setAux_run, setAux_clc, setAux_svc, setAux_lif] using frame

theorem faultLifted_aux (s : State) : (faultLifted s).ldt.aux = { s.ldt.aux with coolFan := false } := by
  simp only [faultLifted, setAux_aux, removeReasonFrom_aux]

theorem faultLifted_has (q : Reason) (l : LoadId) (s : State) :
    (load (faultLifted s) l).mask.has q = (q != .faultMode && (load s l).mask.has q) := by
  simp only [faultLifted, load_setAux, removeReasonFrom_has, mem_allLoads, decide_true, Bool.and_true]
  rfl

theorem keeps_clearOvenFault (s : State) : Keeps s (clearOvenFault s) := by
  have writes : Writes s (clearOvenFault s) :=
    writes_noteMode (writes_setAux (writes_removeReasonFrom (writes_dlu .refl _) (by decide) (by decide) _) _) _
  rw [clearOvenFault_eq] at writes ⊢
  have n := noteMode_noted (ovenMode s) (faultLifted s)
  obtain ⟨dlu, run, clc, svc, lif⟩ := faultLifted_frame s
  have aux := faultLifted_aux s
  refine keeps_latch writes (n.dlu.trans dlu) rfl rfl (n.run.trans run) (n.clc.trans clc) (by rw [n.svc, svc])
    (fun l => ?_) (fun l => ?_) ?_ ?_ (fun h => noteMode_lamp ?_) (fun h => noteMode_silence ?_) (fun h => noteMode_heard ?_)
  · rw [n.load]; exact ⟨faultLifted_has .pause l s, faultLifted_has .door l s⟩
  · rw [n.load]; exact faultLifted_has .faultMode l s
  · rw [n.aux, aux]
  · rw [n.aux, aux]
  · rw [LampFor, aux, dlu]; exact h
  · rw [SilenceFor, lif]; exact h
  · rw [lif]; exact h

/-! ## START (R144) -/

/-- The run record replaced and the oven mode noted, before the door and the first step (R144). -/
def runFresh (slot : Nat) (s : State) : State := noteMode (ovenMode s) { setPause {} s with run := freshRun slot }

theorem beginRun_eq (slot : Nat) (s : State) : beginRun slot s =
    startStep (stepCount (if (runFresh slot s).dlu.door = .opened then pauseForDoor (runFresh slot s) else runFresh slot s) slot) 0
      (if (runFresh slot s).dlu.door = .opened then pauseForDoor (runFresh slot s) else runFresh slot s) := rfl

theorem runFresh_blocks (slot : Nat) (s : State) : (runFresh slot s).run = freshRun slot ∧ (runFresh slot s).clc = s.clc
    ∧ (runFresh slot s).dlu = s.dlu ∧ (runFresh slot s).svc = s.svc := by
  have n := noteMode_noted (ovenMode s) { setPause {} s with run := freshRun slot }
  have view := setPause_doorView {} s
  exact ⟨n.run, n.clc.trans (setPause_clc {} s), n.dlu.trans (congrArg DoorView.dlu view),
    n.svc.trans (congrArg DoorView.svc view)⟩

theorem standby_iff : ovenMode s = .standby ↔ s.svc.service = false ∧ s.dlu.latch = false ∧ s.run.state = .idle := by
  unfold ovenMode
  split_ifs <;> simp_all

/-- The pause set is emptied and the run record replaced by one with an empty set. -/
theorem runsOn_emptied {r : Run} (pause : r.pause = {}) (s : State) : RunsOn s { setPause {} s with run := r } := by
  have masks (h : PauseMasks s) : PauseMasks { setPause {} s with run := r } := fun l => by
    have m := setPause_pauseMasks {} h l
    rw [setPause_run] at m
    rw [show load { setPause {} s with run := r } l = load (setPause {} s) l from rfl, m, pause]
  have aux : (setPause {} s).ldt.aux = s.ldt.aux := setPause_aux {} s
  have view := setPause_doorView {} s
  refine ⟨view, .inl ⟨congrArg Aux.fan aux, ?_⟩, masks⟩
  have dlu : (setPause {} s).dlu = s.dlu := congrArg DoorView.dlu view
  simp only [fanValue, setPause_clc, setPause_msu, dlu]

theorem goesOn_runFresh (slot : Nat) (s : State) : GoesOn s (runFresh slot s) := (runsOn_emptied rfl s).noted

theorem keeps_runFresh (slot : Nat) (standby : ovenMode s = .standby) : Keeps s (runFresh slot s) := by
  obtain ⟨service, -, idle⟩ := standby_iff.1 standby
  obtain ⟨run, clc, dlu, svc⟩ := runFresh_blocks slot s
  have g := goesOn_runFresh slot s
  have writes : Writes s (runFresh slot s) :=
    writes_noteMode (writes_run (writes_setPause .refl {}) (freshRun slot) fun _ => by simp [RunRange, freshRun]) _
  refine ⟨⟨writes.table, fun h => ⟨fun l => ?_, ?_⟩, g.doorLaw, fun h => ?_⟩, g.silence, g.heard,
    framing_of_fixed writes.fixed⟩
  · have masks : (load (runFresh slot s) l).mask.pause = (load (setPause {} s) l).mask.pause := by
      rw [show load (runFresh slot s) l = load (setPause {} s) l from (noteMode_noted _ _).load l]
    rw [masks, setPause_pauseMasks {} h.masks l, run, setPause_run]
    rfl
  · rw [run]; intro r hr; cases r <;> exact absurd hr Bool.false_ne_true
  · rw [runLaw_iff, run, clc, svc]
    have kind : s.clc.climate.kind = .none := h.climate.2 (.inl idle)
    exact ⟨rfl, rfl, fun _ => rfl, by simp [freshRun], by simp [freshRun], Nat.zero_le _, by simp [freshRun, kind],
      h.timer, by simp [service]⟩

theorem keeps_beginRun (slot : Nat) (standby : ovenMode s = .standby) : Keeps s (beginRun slot s) := by
  have fresh := keeps_runFresh slot standby
  rw [beginRun_eq]
  have paused : Keeps s (if (runFresh slot s).dlu.door = .opened then pauseForDoor (runFresh slot s) else runFresh slot s) :=
    keeps_ite (keeps_pauseForDoor fresh) fresh
  have current : hasCurrent (if (runFresh slot s).dlu.door = .opened then pauseForDoor (runFresh slot s)
      else runFresh slot s) = true := by
    have run : (runFresh slot s).run.state = .active := by rw [(runFresh_blocks slot s).1]; rfl
    split
    · unfold pauseForDoor
      split
      · rw [hasCurrent_iff, raise_run, addPause_run]; exact .inl run
      · exact hasCurrent_iff.2 (.inl run)
    · exact hasCurrent_iff.2 (.inl run)
  exact paused.acts (acts_startStep _ _ .refl current)

end Sys2Proof.Machine
end

section
/-!
SUPPORT. What INIT does to the run, the boiler and the climate, and what the samples at the measurement unit keep.
-/

namespace Sys2Proof.Machine

variable {s t u v : State}

/-! ## INIT at the run, the boiler and the climate (R165, R104, R80) -/

/-- The run record that INIT leaves of a run (R165). -/
def abortedRun (r : Run) : Run :=
  { r with pause := {}, state := .idle, outcome := some .aborted, awaiting := .none, latched := {}, endingCause := .none }

theorem initRun_cases (s : State) : s.run.state = .idle ∧ initRun s = s
    ∨ s.run.state ≠ .idle ∧ initRun s = { setPause {} s with run := abortedRun s.run } := by
  unfold initRun
  split
  · exact .inl ⟨‹_›, rfl⟩
  · refine .inr ⟨‹_›, ?_⟩
    dsimp only
    rw [setPause_run]
    rfl

theorem runsOn_initRun (s : State) : RunsOn s (initRun s) := by
  obtain ⟨-, e⟩ | ⟨-, e⟩ := initRun_cases s <;> rw [e]
  · exact .refl
  · exact runsOn_emptied rfl s

theorem writes_initRun (h : Writes s u) : Writes s (initRun u) := by
  obtain ⟨-, e⟩ | ⟨-, e⟩ := initRun_cases u <;> rw [e]
  · exact h
  · refine writes_run (writes_setPause h {}) _ fun r => ?_
    rw [setPause_run] at r
    exact r

/-- The steam generator's record as INIT leaves it, before the state is entered (R104). -/
def sgcInit (s : State) : Sgc :=
  { Sgc.reset with state := s.sgc.state, content := if s.msu.low.reported = .wet then .unknown else Sgc.reset.content }

theorem initBoiler_eq (s : State) : initBoiler s =
    enterBoiler (if s.msu.low.reported = .wet then .draining else .empty) (evalScaleMask { s with sgc := sgcInit s }) := by
  have init : (if s.msu.low.reported = .wet then
      { s with sgc := { Sgc.reset with state := s.sgc.state, content := .unknown } }
      else { s with sgc := { Sgc.reset with state := s.sgc.state } }) = { s with sgc := sgcInit s } := by
    unfold sgcInit; split <;> rfl
  have msu : (evalScaleMask { s with sgc := sgcInit s }).msu = s.msu := (putReason_blocks _ _ _ _).2.2.2
  unfold initBoiler
  dsimp only at init ⊢
  rw [init, msu]

theorem boiler_enteredInit (s : State) : BoilerMoves { s with sgc := sgcInit s } (initBoiler s) := by
  rw [initBoiler_eq]
  exact boiler_enterBoiler (boiler_evalScaleMask .refl) _

theorem quiet_initBoiler (s : State) : Quiet s (initBoiler s) :=
  Quiet.trans (u := { s with sgc := sgcInit s }) ⟨rfl, rfl, rfl, rfl⟩ (boiler_enteredInit s).quiet

theorem writes_initBoiler (h : Writes s u) : Writes s (initBoiler u) := by
  refine Writes.boiler (writes_sgc h (sgcInit u) fun _ => ?_) (boiler_enteredInit u)
  constructor <;> simp [sgcInit, Sgc.reset]

/-- INIT at the run engine, the steam generator and the climate controller, with the oven mode noted (R189). -/
def initInner (s : State) : State := noteMode (ovenMode s) (handOver .absent (initBoiler (initRun s)))

theorem initAll_eq (s : State) : initAll s = initLink (initArbiter (initService (initInner s))) := rfl

theorem quiet_run (q : Quiet s t) : plainRun t.run = plainRun s.run := inner_run q.view

theorem initInner_run (s : State) : plainRun (initInner s).run = plainRun (initRun s).run := by
  rw [initInner, (noteMode_noted _ _).run, inner_run (inner_handOver _ _), quiet_run (quiet_initBoiler _)]

theorem runsOn_initInner (s : State) : RunsOn s (handOver .absent (initBoiler (initRun s))) :=
  ((runsOn_initRun s).trans (quiet_initBoiler _).runsOn).trans (runsOn_handOver _ _)

theorem goesOn_initInner (s : State) : GoesOn s (initInner s) := (runsOn_initInner s).noted

theorem initInner_climate (s : State) : (initInner s).clc.climate = .absent
    ∧ (initInner s).clc.loopTimer.isSome = false := by
  rw [initInner, (noteMode_noted _ _).clc, handOver_climate, handOver_loopTimer]
  exact ⟨rfl, rfl⟩

theorem abortedRun_shape {r : Run} (hold : r.holdS ≤ 3600) (service : Bool) :
    RunShape (abortedRun r) .none false service :=
  ⟨rfl, rfl, fun e => absurd rfl e, fun _ => rfl, fun e => absurd rfl e, hold, by simp [abortedRun], rfl, fun _ => rfl⟩

theorem initInner_pauseMasks (h : PauseMasks s) : PauseMasks (initInner s) := fun l => by
  have n := noteMode_noted (ovenMode s) (handOver .absent (initBoiler (initRun s)))
  have m := (runsOn_initInner s).pauseMasks h l
  rw [show (initInner s).run = _ from n.run, show load (initInner s) l = _ from n.load l]
  exact m

theorem keeps_initInner (s : State) : Keeps s (initInner s) := by
  have g := goesOn_initInner s
  have run := initInner_run s
  obtain ⟨climate, timer⟩ := initInner_climate s
  have writes : Writes s (initInner s) :=
    writes_noteMode (writes_handOver (writes_initBoiler (writes_initRun .refl)) .absent fun _ => weights_absent) _
  refine ⟨⟨writes.table, fun h => ?_, g.doorLaw, fun h => ?_⟩, g.silence, g.heard, framing_of_fixed writes.fixed⟩
  · refine pauseLaw_of_plain run (initInner_pauseMasks h.masks) ?_
    obtain ⟨-, e⟩ | ⟨-, e⟩ := initRun_cases s <;> rw [e]
    · exact h.taken
    · intro p hp; cases p <;> exact absurd hp Bool.false_ne_true
  · refine runLaw_of_plain run ?_
    rw [climate, timer]
    obtain ⟨idle, e⟩ | ⟨-, e⟩ := initRun_cases s <;> rw [e]
    · obtain ⟨awaiting, ending, outcome, latched, slot, hold, -, -, -⟩ := h
      exact ⟨awaiting, ending, outcome, latched, slot, hold, by simp [idle, Climate.absent], rfl, fun _ => idle⟩
    · exact abortedRun_shape h.hold _

/-! ## The measurement unit -/

/-- The counts of every analog channel lie in their range (R4). -/
def CountsOk (m : Msu) : Prop := ∀ c, (channel c m).badRun ≤ 3 ∧ (channel c m).goodRun ≤ 3

theorem countsOk_congr {m n : Msu} (same : ∀ c, channel c n = channel c m) (h : CountsOk m) : CountsOk n := fun c => by
  rw [same]; exact h c

theorem table_msu {m : Msu} (counts : CountsOk s.msu → CountsOk m) : TableKeeps s { s with msu := m } where
  firing := firingLaw_congr rfl rfl
  solo := soloLaw_congr rfl rfl
  mask _ _ := maskLaw_congr rfl rfl
  bounded b := ⟨b.1.demands, b.1.entry, b.1.loops, b.1.steam, b.1.boiler, b.1.run, counts b.1.runs⟩
  list := listLaw_congr rfl rfl
  config := configLaw_congr rfl rfl rfl
  store := storeLaw_congr rfl rfl

theorem keeps_msu {m : Msu} (counts : CountsOk s.msu → CountsOk m) : Keeps s { s with msu := m } :=
  (aside_of_same (s := s) (t := { s with msu := m }) rfl rfl rfl rfl (fun _ => rfl) rfl rfl).kept (table_msu counts)

theorem keeps_raise (h : Keeps s u) (k : Notice) : Keeps s (raise k u) := h.boiler (boiler_raise .refl k)

theorem sampleAnalog_counts (valid : Bool) (raw : Int) (a : Analog) (h : a.badRun ≤ 3 ∧ a.goodRun ≤ 3) :
    (sampleAnalog valid raw a).1.badRun ≤ 3 ∧ (sampleAnalog valid raw a).1.goodRun ≤ 3 := by
  unfold sampleAnalog
  dsimp only [satAdd]
  split_ifs <;> dsimp only <;> omega

theorem channel_putChannel (c d : Channel) (a : Analog) (m : Msu) :
    channel d (putChannel c a m) = if d = c then a else channel d m := by
  cases c <;> cases d <;> rfl

theorem countsOk_putChannel {m : Msu} {c : Channel} {a : Analog} (ha : a.badRun ≤ 3 ∧ a.goodRun ≤ 3) (h : CountsOk m) :
    CountsOk (putChannel c a m) := fun d => by
  rw [channel_putChannel]
  split
  · exact ha
  · exact h d

theorem keeps_sampleChannel (c : Channel) (raw : Int) (s : State) : Keeps s (sampleChannel c raw s).1 := by
  have put : Keeps s { s with msu := putChannel c (sampleAnalog (validRaw c raw) raw (channel c s.msu)).1 s.msu } :=
    keeps_msu fun h => countsOk_putChannel (sampleAnalog_counts _ _ _ (h c)) h
  exact keeps_ite (keeps_raise put _) put

theorem keeps_clearFresh (i : MainsInput) (s : State) : Keeps s (clearFresh i s) := by
  cases i <;> exact keeps_msu id

theorem keeps_mainsSample (i : MainsInput) (s : State) : Keeps s (mainsSample i s) := by
  unfold mainsSample
  split
  · exact keeps_clearFresh i s
  · exact (keeps_clearFresh i s).trans (keeps_sampleChannel _ _ _)

theorem countsOk_empty {m : Msu} {c : Channel} (h : CountsOk m) : CountsOk (putChannel c (emptyAnalog (channel c m)) m) :=
  countsOk_putChannel ⟨Nat.zero_le 3, Nat.zero_le 3⟩ h

/-! ## Samples and their consumers (R13) -/

theorem keeps_cavityReport (r : Report) (h : Keeps s u) : Keeps s (cavityReport r u) := by
  have sampled : Keeps s (match u.msu.cavity.filtered with
      | some t => cavitySample t u
      | .none => u) := by
    split
    · exact h.trans (keeps_cavitySample _ u)
    · exact h
  cases r with
  | nothing => exact h
  | faultSet => exact h.trans ((keeps_evalFan u).trans (keeps_sensorCause _))
  | sample | clearedThenSample => exact sampled

theorem boiler_boilerEvent (h : BoilerMoves s u) : BoilerMoves s (boilerEvent u) := by
  unfold boilerEvent
  split
  · exact boiler_boilerSample h _
  · exact h

theorem boiler_boilerReport (r : Report) (h : BoilerMoves s u) : BoilerMoves s (boilerReport r u) := by
  cases r with
  | nothing => exact h
  | faultSet => exact boiler_boilerChannelFaults h
  | sample => exact boiler_boilerEvent h
  | clearedThenSample => exact boiler_boilerEvent (boiler_boilerChannelClears h)

theorem acts_moistureReport (r : Report) (h : StepActs s u) : StepActs s (moistureReport r u) := by
  cases r with
  | nothing | sample | clearedThenSample => exact h
  | faultSet => exact acts_moistureFaults h

theorem acts_coreReport (r : Report) (h : StepActs s u) : StepActs s (coreReport r u) := by
  have sampled : StepActs s (match u.msu.core.filtered with
      | some t => runCoreSample t u
      | .none => u) := by
    split
    · exact acts_runCoreSample h _
    · exact h
  cases r with
  | nothing => exact h
  | faultSet => exact acts_loseProbe h
  | sample | clearedThenSample => exact sampled

theorem keeps_analogSample (i : AnalogInput) (raw : Int) (s : State) : Keeps s (analogSample i raw s) := by
  cases i with
  | cavity => exact keeps_cavityReport _ (keeps_sampleChannel .cavity raw s)
  | boiler => exact (keeps_sampleChannel .boiler raw s).boiler (boiler_boilerReport _ .refl)
  | moisture => exact (keeps_sampleChannel .moisture raw s).acts (acts_moistureReport _ .refl)

theorem keeps_storePresence (p : Digital Presence × Bool) (s : State) : Keeps s (storePresence p s) := by
  refine keeps_msu fun h => ?_
  obtain ⟨probe, change⟩ := p
  cases change
  · exact countsOk_congr (fun c => by cases c <;> rfl) h
  · exact countsOk_congr (fun c => by cases c <;> rfl) (countsOk_empty (c := .core) h)

theorem keeps_probeSample (contact : Presence) (raw : Int) (s : State) : Keeps s (probeSample contact raw s) := by
  have stored := keeps_storePresence (presenceSample contact s.msu) s
  unfold probeSample
  dsimp only
  split
  · exact keeps_ite (stored.acts (acts_loseProbe .refl)) stored
  · exact (stored.trans (keeps_sampleChannel .core raw _)).acts (acts_coreReport _ .refl)

theorem keeps_storeElectrodes (low high : Digital Level) (s : State) : Keeps s (storeElectrodes low high s) :=
  keeps_msu (countsOk_congr fun c => by cases c <;> rfl)

theorem boiler_lowEdge (h : BoilerMoves s u) (l : Level) : BoilerMoves s (lowEdge l u) := by
  cases l with
  | dry => exact boiler_lowFallsDry h
  | wet => exact boiler_lowRisesWet h

theorem boiler_highEdge (h : BoilerMoves s u) (l : Level) : BoilerMoves s (highEdge l u) := by
  cases l with
  | dry => exact h
  | wet => exact boiler_highRisesWet h

theorem keeps_electrodeSample (low high : Level) (s : State) : Keeps s (electrodeSample low high s) := by
  unfold electrodeSample
  refine keeps_ite ?_ (keeps_ite .refl ?_)
  · unfold firstElectrodes
    dsimp only
    split
    · exact (keeps_storeElectrodes _ _ s).boiler (boiler_drainUnknown .refl)
    · exact keeps_storeElectrodes _ _ s
  · have stored := keeps_storeElectrodes (sampleDigital low s.msu.low).1 (sampleDigital high s.msu.high).1 s
    unfold laterElectrodes
    dsimp only
    have edge := keeps_ite (p := (sampleDigital low s.msu.low).2 = true) (stored.boiler (boiler_lowEdge .refl low)) stored
    exact (keeps_ite (edge.boiler (boiler_highEdge .refl high)) edge).acts (acts_settleRun .refl)

end Sys2Proof.Machine
end

section
/-!
SUPPORT. The schedule of a build: no leg of a slot is given more than its capacity in force, and a solo slot holds its load and
no other of its leg (R52, R53).
-/

namespace Sys2Proof.Machine

variable {f : InForce} {t : Slot} {grid : List Slot} {s : State}

/-- What the firing law asks of one slot. -/
structure SlotOk (f : InForce) (t : Slot) : Prop where
  capacity : ∀ g, legSum f t g ≤ f.cap g
  solo : ∀ g l, soloOn t g = some l → ∀ k, placedOn f t g k = (k == l)

/-- What the firing law asks of a schedule. -/
def GridOk (f : InForce) (grid : List Slot) : Prop := ∀ n, SlotOk f (slotOf grid n)

theorem slotOk_empty (f : InForce) : SlotOk f .empty where
  capacity g := by
    have none (l : LoadId) : placedOn f .empty g l = false := by cases l <;> rfl
    simp [legSum, none]
  solo g l e := by cases g <;> simp [soloOn, Slot.empty] at e

theorem slotOf_empty (n : Nat) : slotOf emptyGrid n = .empty := by
  simp only [slotOf, emptyGrid, List.getD_eq_getElem?_getD, List.getElem?_replicate]
  split <;> rfl

theorem gridOk_empty (f : InForce) : GridOk f emptyGrid := fun n => by
  rw [slotOf_empty]; exact slotOk_empty f

/-- A slot changes alone (R52, R53). -/
theorem slotOf_updSlot (h : Slot → Slot) (n m : Nat) (grid : List Slot) :
    slotOf (updSlot h n grid) m = if m = n ∧ n < grid.length then h (slotOf grid n) else slotOf grid m := by
  simp only [slotOf, updSlot, List.getD_eq_getElem?_getD, List.getElem?_set]
  by_cases e : n = m
  · subst e
    by_cases l : n < grid.length <;> simp [l]
  · simp [e, Ne.symm e]

theorem GridOk.updSlot {h : Slot → Slot} {n : Nat} (ok : GridOk f grid) (slot : SlotOk f (h (slotOf grid n))) :
    GridOk f (updSlot h n grid) := fun m => by
  rw [slotOf_updSlot]
  split
  · exact slot
  · exact ok m

theorem placedOn_placeIn (l k : LoadId) (g : Leg) :
    placedOn f (placeIn l t) g k = (placedOn f t g k || (k == l && f.leg.get l == g)) := by
  simp only [placedOn, placeIn, PerLoad.get_set]
  by_cases e : k = l
  · subst e; cases t.placed.get k <;> simp
  · simp [e]

theorem placedOn_reserveIn (l k : LoadId) (g h : Leg) :
    placedOn f (reserveIn l h t) g k = placedOn f (placeIn l t) g k := by cases h <;> rfl

theorem soloOn_reserveIn (l : LoadId) (g h : Leg) :
    soloOn (reserveIn l h t) g = if g = h then some l else soloOn t g := by cases g <;> cases h <;> rfl

/-- The sum of a leg with one load more. -/
theorem sum_charges_add {p : LoadId → Bool} {l : LoadId} (out : p l = false) (b : Bool) (c : LoadId → Nat) :
    (allLoads.map fun k => if p k || (k == l && b) then c k else 0).sum
      = (allLoads.map fun k => if p k then c k else 0).sum + if b then c l else 0 := by
  cases b
  · simp
  · cases l <;> simp [allLoads, out] <;> omega

theorem legSum_placeIn {l : LoadId} (out : ∀ g, placedOn f t g l = false) (g : Leg) :
    legSum f (placeIn l t) g = legSum f t g + if f.leg.get l = g then f.charge.get l else 0 := by
  simp only [legSum, placedOn_placeIn]
  rw [sum_charges_add (out g)]
  simp

theorem legSum_reserveIn (l : LoadId) (g h : Leg) : legSum f (reserveIn l h t) g = legSum f (placeIn l t) g := by
  simp only [legSum, placedOn_reserveIn]

theorem placedOn_other_leg {l : LoadId} {g : Leg} (h : f.leg.get l ≠ g) : placedOn f t g l = false := by
  simp [placedOn, h]

/-- A load is reserved on its leg, which is free, and its charge fits (R52). -/
theorem slotOk_reserveIn {l : LoadId} (ok : SlotOk f t) (free : legFree f t (f.leg.get l) = true)
    (fits : f.charge.get l ≤ f.cap (f.leg.get l)) : SlotOk f (reserveIn l (f.leg.get l) t) := by
  have none (k : LoadId) : placedOn f t (f.leg.get l) k = false := by
    simpa using List.all_eq_true.1 free k (mem_allLoads k)
  have out (g : Leg) : placedOn f t g l = false := by
    by_cases e : f.leg.get l = g
    · rw [← e]; exact none l
    · exact placedOn_other_leg e
  constructor
  · intro g
    rw [legSum_reserveIn, legSum_placeIn out]
    split
    · rename_i e
      subst e
      have zero : legSum f t (f.leg.get l) = 0 := by simp [legSum, none]
      omega
    · exact ok.capacity g
  · intro g k hk j
    rw [soloOn_reserveIn] at hk
    rw [placedOn_reserveIn, placedOn_placeIn]
    split at hk
    · rename_i e
      subst e
      simp only [Option.some.injEq] at hk
      subst hk
      simp [none]
    · rename_i e
      rw [ok.solo g k hk j, beq_false_of_ne (Ne.symm e), Bool.and_false, Bool.or_false]

/-- A load is placed in a slot that it may take (R53). -/
theorem slotOk_placeIn {l : LoadId} (ok : SlotOk f t) (take : mayTake f l t = true) : SlotOk f (placeIn l t) := by
  simp only [mayTake, Bool.and_eq_true, Bool.not_eq_true', decide_eq_true_eq, Option.isNone_iff_eq_none] at take
  obtain ⟨⟨out, free⟩, fits⟩ := take
  have out (g : Leg) : placedOn f t g l = false := by simp [placedOn, out]
  constructor
  · intro g
    rw [legSum_placeIn out]
    split
    · rename_i e; subst e; exact fits
    · exact ok.capacity g
  · intro g k hk j
    have hk : soloOn t g = some k := hk
    have other : f.leg.get l ≠ g := by rintro rfl; simp [free] at hk
    rw [placedOn_placeIn, ok.solo g k hk j, beq_false_of_ne other, Bool.and_false, Bool.or_false]

theorem gridOk_reserveSolo (placement : List Nat) (l : LoadId) (ok : GridOk f grid) :
    GridOk f (reserveSolo f placement l grid) := by
  unfold reserveSolo
  dsimp only
  split
  · exact ok
  · split
    · rename_i fits _ n found
      exact ok.updSlot (slotOk_reserveIn (ok n) (by simpa using List.find?_some found) (by omega))
    · exact ok

theorem gridOk_verificationPass (placement : List Nat) (ls : List LoadId) (ok : GridOk f grid) :
    GridOk f (verificationPass f placement ls grid) := by
  induction ls generalizing grid with
  | nil => exact ok
  | cons l ls ih => exact ih (gridOk_reserveSolo placement l ok)

theorem gridOk_walk (l : LoadId) (demand : Nat) (ns : List Nat) (ok : GridOk f grid) : GridOk f (walk f l demand ns grid) := by
  induction ns generalizing grid with
  | nil => exact ok
  | cons n ns ih =>
    unfold walk
    split
    · exact ok
    · refine ih ?_
      split
      · exact ok.updSlot (slotOk_placeIn (ok n) ‹_›)
      · exact ok

theorem gridOk_normalPass (placement : List Nat) (ls : List (LoadId × Nat)) (ok : GridOk f grid) :
    GridOk f (normalPass f placement ls grid) := by
  induction ls generalizing grid with
  | nil => exact ok
  | cons p ls ih => exact ih (gridOk_walk _ _ _ ok)

/-- The schedule of a build is one that the firing law allows (R52, R53). -/
theorem gridOk_schedule (s : State) : GridOk (valuesNow s) (schedule s) :=
  gridOk_normalPass _ _ (gridOk_verificationPass _ _ (gridOk_empty _))

theorem FiringLaw.gridOk (h : FiringLaw s) : GridOk s.par.frame.inForce s.par.frame.grid := fun n =>
  ⟨h.capacity n, h.solo n⟩

theorem placed_of_placedOn {g : Leg} {l : LoadId} (h : placedOn f t g l = true) :
    t.placed.get l = true ∧ f.leg.get l = g := by
  simpa [placedOn] using h

/-- A slot's solo load is placed in it, and charged to the leg (R52). -/
theorem SlotOk.solo_placed (ok : SlotOk f t) {g : Leg} {l : LoadId} (h : soloOn t g = some l) :
    t.placed.get l = true ∧ f.leg.get l = g := placed_of_placedOn (by rw [ok.solo g l h l]; simp)

theorem isSolo_iff {l : LoadId} : isSolo t l = true ↔ ∃ g, soloOn t g = some l := by
  constructor
  · intro h
    simp only [isSolo, Bool.or_eq_true, beq_iff_eq] at h
    obtain h | h := h
    · exact ⟨.a, h⟩
    · exact ⟨.b, h⟩
  · rintro ⟨g, h⟩
    cases g <;> simp only [soloOn] at h <;> simp [isSolo, h]

end Sys2Proof.Machine
end

section
/-!
SUPPORT. What the arbiter's operations keep: the primitive writes of the load table and the frame, the opening of a slot, the
judging of its measurements, the half-cycles between, the frame start, the loss of the supply and INIT.
-/

namespace Sys2Proof.Machine

variable {s t u v : State}

/-! ## Configuration and store beside the frame -/

/-- The laws of the ranges, the configuration, the lists and the store are kept. -/
structure Stored (s t : State) : Prop where
  bounded : Bounded s → RangeLaw t
  list : ListLaw s → ListLaw t
  config : ConfigLaw s → ConfigLaw t
  store : StoreLaw s → StoreLaw t

theorem Stored.trans (h : Stored s u) (k : Stored u v) : Stored s v where
  bounded b := k.bounded ⟨h.bounded b, h.config b.2⟩
  list f := k.list (h.list f)
  config f := k.config (h.config f)
  store f := k.store (h.store f)

theorem TableKeeps.stored (h : TableKeeps s t) : Stored s t := ⟨h.bounded, h.list, h.config, h.store⟩

theorem Stored.table (h : Stored s t) (firing : FiringLaw s → FiringLaw t) (solo : SoloLaw s → SoloLaw t)
    (mask : FiringLaw s → SoloLaw s → MaskLaw s → MaskLaw t) : TableKeeps s t :=
  ⟨firing, solo, mask, h.bounded, h.list, h.config, h.store⟩

/-- The numbers of a load record that a configuration law or a range law reads. -/
def loadNumbers (d : Load) : Nat × Nat × Nat := (d.demand, d.cls, d.ratedW)

/-- Only the frame, the measurements, the counts of the measurement unit and marks of the loads differ. -/
theorem stored_of_same (loads : ∀ l, loadNumbers (load t l) = loadNumbers (load s l))
    (par : (t.par.supply, t.par.placement, t.par.lists) = (s.par.supply, s.par.placement, s.par.lists))
    (blocks : (t.clc, t.sgc, t.run, t.pst, t.lif.pendingDef) = (s.clc, s.sgc, s.run, s.pst, s.lif.pendingDef))
    (counts : CountsOk s.msu → CountsOk t.msu) : Stored s t := by
  simp only [Prod.mk.injEq, loadNumbers] at loads par blocks
  obtain ⟨supply, placement, lists⟩ := par
  obtain ⟨clc, sgc, run, pst, pending⟩ := blocks
  constructor
  · intro b
    obtain ⟨demands, entry, loops, steam, boiler, range, runs⟩ := b.1
    exact ⟨fun l => by rw [(loads l).1]; exact demands l, by rwa [clc], by rwa [clc], by rwa [sgc], by rwa [sgc], by rwa [run],
      counts runs⟩
  · intro ⟨own, once, perm⟩
    exact ⟨fun l => by rw [(loads l).2.1]; exact own l, fun c hc l => by rw [lists, (loads l).2.1]; exact once c hc l,
      by rwa [placement]⟩
  · intro ⟨budgets, reserves, slotHc, rated, entries, ranges, loop⟩
    exact ⟨by rwa [supply], by rwa [supply], by rwa [supply], fun l => by rw [(loads l).2.2]; exact rated l, by rwa [clc],
      by rwa [clc], by rwa [clc]⟩
  · intro ⟨once, referenced, kinds, lengths, tags, tagged, ranges, keepWarm, part0⟩
    constructor
    case part0 => rwa [pending]
    all_goals simpa only [allRecords, userProgram, pst]

/-! ## Primitive writes -/

theorem sameMarks_updLoad {f : Load → Load} {l : LoadId}
    (marks : ∀ d, ((f d).mask.supply, (f d).mask.health, (f d).health) = (d.mask.supply, d.mask.health, d.health))
    (s : State) : SameMarks s (updLoad f l s) := by
  refine ⟨rfl, fun k => ?_⟩
  rw [load_updLoad]
  split
  · subst k
    simpa only [Prod.mk.injEq] using marks (load s l)
  · exact ⟨rfl, rfl, rfl⟩

/-- A load record is rewritten in its verification fields alone. -/
theorem keeps_updLoad {f : Load → Load} {l : LoadId} (same : ∀ d, ((f d).on, (f d).mask, (f d).health) = (d.on, d.mask, d.health))
    (numbers : ∀ d, loadNumbers (f d) = loadNumbers d) (s : State) : Keeps s (updLoad f l s) := by
  simp only [Prod.mk.injEq] at same
  have dims : OnlyDims s (updLoad f l s) := onlyDims_updLoad (same _).1 (by rw [(same _).2.1]; exact id)
  have marks : SameMarks s (updLoad f l s) := sameMarks_updLoad (fun d => by rw [(same d).2.1, (same d).2.2]) s
  have stored : Stored s (updLoad f l s) := by
    refine stored_of_same (fun k => ?_) rfl rfl id
    rw [load_updLoad]
    split
    · subst k; exact numbers _
    · rfl
  exact (aside_updLoad (fun d => (same d).2.1) l s).kept
    (stored.table dims.firing dims.solo fun _ _ => maskLaw_of_sameMarks marks)

theorem keeps_setVerify (l : LoadId) (s : State) : Keeps s (setVerify l s) :=
  keeps_updLoad (f := fun d => { d with verifyDue := true }) (fun _ => rfl) (fun _ => rfl) s

theorem keeps_setDemand {n : Nat} (hn : n ≤ 16) (l : LoadId) (s : State) : Keeps s (setDemand n l s) :=
  (aside_updLoad (f := fun d => { d with demand := n }) (fun _ => rfl) l s).kept (writes_demand .refl n l fun _ => hn).table

/-- A mask reason that stands for no record outside the load table (Table 2.3). -/
def freeReason : Reason → Bool
  | .overload | .forceOff | .level | .dryfire | .scale => true
  | .door | .pause | .health | .supply | .faultMode => false

theorem keeps_putReason {r : Reason} (h : freeReason r = true) (b : Bool) (l : LoadId) (s : State) :
    Keeps s (putReason b r l s) := by
  have ne (q : Reason) (hq : freeReason q = false) : r ≠ q := by rintro rfl; simp [h] at hq
  exact (aside_putReason (ne _ rfl) (ne _ rfl) (ne _ rfl) b l s).kept
    (writes_putReason .refl (ne _ rfl) (ne _ rfl) b l).table

theorem keeps_addReason {r : Reason} (h : freeReason r = true) (l : LoadId) (s : State) : Keeps s (addReason r l s) :=
  keeps_putReason h true l s

theorem keeps_removeReason {r : Reason} (h : freeReason r = true) (l : LoadId) (s : State) : Keeps s (removeReason r l s) :=
  keeps_putReason h false l s

theorem keeps_foldl {α : Type} {f : State → α → State} (h : ∀ s a, Keeps s (f s a)) (as : List α) (s : State) :
    Keeps s (as.foldl f s) := by
  induction as generalizing s with
  | nil => exact .refl
  | cons a as ih => exact (h s a).trans (ih _)

/-- The service functions' own record is written, and SERVICE stands as it was. -/
theorem keeps_svc (s : State) (r : Svc) (service : r.service = s.svc.service) : Keeps s { s with svc := r } := by
  have aside : Aside s { s with svc := r } := aside_of_same rfl rfl service rfl (fun _ => rfl) rfl rfl
  have stored : Stored s { s with svc := r } := stored_of_same (fun _ => rfl) rfl rfl id
  exact aside.kept (stored.table (firingLaw_congr rfl rfl) (soloLaw_congr rfl rfl) fun _ _ => maskLaw_congr rfl rfl)

/-! ## Patterns and forcing (R190, R191) -/

theorem keeps_patternFires (l : LoadId) (s : State) : Keeps s (patternFires l s) :=
  (keeps_removeReason rfl l s).trans (keeps_setDemand le_rfl l _)

theorem keeps_patternHolds (l : LoadId) (s : State) : Keeps s (patternHolds l s) :=
  (keeps_addReason rfl l s).trans (keeps_setDemand (Nat.zero_le _) l _)

theorem keeps_writePattern (p : Pattern) (s : State) : Keeps s (writePattern p s) := by
  have named := keeps_svc s { s.svc with pattern := p } rfl
  unfold writePattern
  dsimp only at named ⊢
  generalize { s with svc := { s.svc with pattern := p } } = w at named ⊢
  refine named.trans ?_
  cases p with
  | none => exact keeps_foldl (fun u l => (keeps_removeReason rfl l u).trans (keeps_setDemand (Nat.zero_le _) l _)) _ w
  | allOff => exact keeps_foldl (fun u l => keeps_patternHolds l u) _ w
  | walk =>
    exact keeps_foldl (fun u l => keeps_ite ((keeps_patternFires l u).trans (keeps_setVerify l _)) (keeps_patternHolds l u)) _ w
  | alternate => exact keeps_foldl (fun u l => keeps_ite (keeps_patternFires l u) (keeps_patternHolds l u)) _ w

theorem keeps_advancePattern (s : State) : Keeps s (advancePattern s) := by
  unfold advancePattern
  split
  iterate 2 exact .refl
  all_goals exact keeps_writePattern _ s

theorem keeps_startPattern (p : Pattern) (s : State) : Keeps s (startPattern p s) :=
  (keeps_svc s { s.svc with forcing := .of fun _ => .none } rfl).trans (keeps_writePattern p _)

theorem keeps_initService (s : State) : Keeps s (initService s) := keeps_ite (keeps_startPattern .none s) .refl

theorem keeps_writeForcing (f : Forcing) (l : LoadId) (s : State) : Keeps s (writeForcing f l s) := by
  refine ((keeps_svc s { s.svc with forcing := s.svc.forcing.set l f } rfl).trans (keeps_putReason rfl (f == .off) l _)).trans
    (keeps_setDemand ?_ l _)
  split <;> omega

/-! ## Overload (R32, R33) -/

theorem keeps_overloadLeg (g : Leg) (s : State) : Keeps s (overloadLeg g s) :=
  keeps_raise (keeps_foldl (fun s l => (keeps_setVerify l s).trans (keeps_addReason rfl l _)) _ s) _

theorem keeps_checkLeg (g : Leg) (volts : Nat) (amps : Option Nat) (faulted : Bool) (s : State) :
    Keeps s (checkLeg g volts amps faulted s) := by
  unfold checkLeg
  split
  · exact .refl
  · exact keeps_ite (keeps_overloadLeg g s) .refl

theorem keeps_checkOverload (r : Option HalfCycle) (s : State) : Keeps s (checkOverload r s) := by
  unfold checkOverload
  split
  · exact .refl
  · have legA := keeps_checkLeg .a ‹HalfCycle›.volts (some ‹HalfCycle›.ampsA) (s.msu.voltage.fault || s.msu.ampsA.fault) s
    dsimp only
    split
    · exact legA
    · exact legA.trans (keeps_checkLeg ..)

/-! ## Folds over the five loads -/

/-- A state without its load records. -/
def shell (s : State) : State := { s with ldt := { s.ldt with loads := .of fun _ => load State.reset .top } }

@[simp] theorem shell_updLoad (f : Load → Load) (l : LoadId) (s : State) : shell (updLoad f l s) = shell s := rfl

/-- Every load of a list has its record rewritten once, by a function of that record. -/
theorem foldl_updLoad_spec {step : State → LoadId → State} {f : LoadId → Load → Load}
    (h : ∀ u, shell u = shell s → ∀ l, step u l = updLoad (f l) l u) {ls : List LoadId} (once : ls.Nodup)
    (hu : shell u = shell s) : shell (ls.foldl step u) = shell s
      ∧ ∀ k, load (ls.foldl step u) k = if k ∈ ls then f k (load u k) else load u k := by
  induction ls generalizing u with
  | nil => exact ⟨hu, fun k => rfl⟩
  | cons l ls ih =>
    obtain ⟨out, once⟩ := List.nodup_cons.1 once
    rw [List.foldl_cons, h u hu l]
    obtain ⟨shelled, loads⟩ := ih once (u := updLoad (f l) l u) ((shell_updLoad _ _ _).trans hu)
    refine ⟨shelled, fun k => (loads k).trans ?_⟩
    rw [load_updLoad]
    by_cases e : k = l
    · subst e; simp [out]
    · simp [e]

/-- Every load's record is rewritten once, by a function of that record. -/
theorem load_foldl_updLoad {step : State → LoadId → State} {f : LoadId → Load → Load}
    (h : ∀ u, shell u = shell s → ∀ l, step u l = updLoad (f l) l u) (k : LoadId) :
    load (allLoads.foldl step s) k = f k (load s k) := by
  rw [(foldl_updLoad_spec h (by decide) rfl).2 k, if_pos (mem_allLoads k)]

theorem shell_foldl_updLoad {step : State → LoadId → State} {f : LoadId → Load → Load}
    (h : ∀ u, shell u = shell s → ∀ l, step u l = updLoad (f l) l u) : shell (allLoads.foldl step s) = shell s :=
  (foldl_updLoad_spec h (by decide) rfl).1

/-- What reads no load record is the same where the shells are. -/
theorem view_of_shell {α : Type} (view : State → α) (h : shell t = shell s)
    (reads : ∀ u, view u = view (shell u) := by intro; rfl) : view t = view s := by rw [reads t, h, ← reads s]

theorem shell_par (h : shell t = shell s) : t.par = s.par := view_of_shell State.par h

theorem shell_meas (h : shell t = shell s) (g : Leg) : legMeasurement t g = legMeasurement s g := by
  have a : t.ldt.measA = s.ldt.measA := view_of_shell (fun u : State => u.ldt.measA) h
  have b : t.ldt.measB = s.ldt.measB := view_of_shell (fun u : State => u.ldt.measB) h
  cases g
  · exact a
  · exact b

theorem aside_of_shell (h : shell t = shell s) (mask : ∀ l, (load t l).mask = (load s l).mask) : Aside s t := by
  refine aside_of_same ?_ ?_ ?_ ?_ mask ?_ ?_
  · exact view_of_shell State.run h
  · exact view_of_shell (fun u : State => (u.clc.climate, u.clc.loopTimer)) h
  · exact view_of_shell (fun u : State => u.svc.service) h
  · exact view_of_shell (fun u : State => (u.dlu.latch, u.dlu.door, u.dlu.causeLimit, u.dlu.causeSensor)) h
  · exact view_of_shell (fun u : State => u.ldt.aux) h
  · exact view_of_shell (fun u : State => linkView u.lif) h

theorem stored_of_shell (h : shell t = shell s) (loads : ∀ l, loadNumbers (load t l) = loadNumbers (load s l)) : Stored s t := by
  refine stored_of_same loads ?_ ?_ ?_
  · exact view_of_shell (fun u : State => (u.par.supply, u.par.placement, u.par.lists)) h
  · exact view_of_shell (fun u : State => (u.clc, u.sgc, u.run, u.pst, u.lif.pendingDef)) h
  · rw [show t.msu = s.msu from view_of_shell State.msu h]; exact id

/-! ## The opening of a slot (R25, R43, R44) -/

/-- The slot's half-cycle and the measurements of its solo loads, before the switching. -/
def slotOpened (n : Nat) (s : State) : State :=
  { s with
    par := { s.par with frame := { s.par.frame with slot := n, half := 1 } }
    ldt := { s.ldt with
      measA := (slotOf s.par.frame.grid n).soloA.map (openMeasurement s)
      measB := (slotOf s.par.frame.grid n).soloB.map (openMeasurement s) } }

/-- A load's record after the opening of a slot. -/
def loadAtOpen (n : Nat) (s : State) (l : LoadId) (d : Load) : Load :=
  { d with on := (slotOf s.par.frame.grid n).placed.get l && !isSolo (slotOf s.par.frame.grid n) l
      && (d.mask.isEmpty && !s.par.frame.withdrawn.get l) }

theorem switchAtOpen_eq (n : Nat) (s : State) (u : State) (h : shell u = shell (slotOpened n s)) (l : LoadId) :
    switchAtOpen (slotOf s.par.frame.grid n) u l = updLoad (loadAtOpen n s l) l u := by
  have w : u.par.frame.withdrawn = s.par.frame.withdrawn := 
    view_of_shell (s := slotOpened n s) (fun v : State => v.par.frame.withdrawn) h
  simp only [switchAtOpen, updLoad, mayFire, loadAtOpen, w]

theorem load_openSlot (n : Nat) (s : State) (l : LoadId) : load (openSlot n s) l = loadAtOpen n s l (load s l) :=
  load_foldl_updLoad (switchAtOpen_eq n s) l

theorem shell_openSlot (n : Nat) (s : State) : shell (openSlot n s) = shell (slotOpened n s) :=
  shell_foldl_updLoad (switchAtOpen_eq n s)

theorem openSlot_par (n : Nat) (s : State) : (openSlot n s).par = { s.par with frame := { s.par.frame with slot := n, half := 1 } } :=
  shell_par (shell_openSlot n s)

theorem legMeasurement_openSlot (n : Nat) (s : State) (g : Leg) :
    legMeasurement (openSlot n s) g = (soloOn (slotOf s.par.frame.grid n) g).map (openMeasurement s) := by
  rw [shell_meas (shell_openSlot n s)]
  cases g <;> rfl

theorem aside_openSlot (n : Nat) (s : State) : Aside s (openSlot n s) :=
  (aside_of_same (s := s) (t := slotOpened n s) rfl rfl rfl rfl (fun _ => rfl) rfl rfl).trans
    (aside_of_shell (shell_openSlot n s) fun l => by rw [load_openSlot]; rfl)

theorem stored_openSlot (n : Nat) (s : State) : Stored s (openSlot n s) :=
  (stored_of_same (s := s) (t := slotOpened n s) (fun _ => rfl) rfl rfl id).trans
    (stored_of_shell (shell_openSlot n s) fun l => by rw [load_openSlot]; rfl)

theorem mayFire_openSlot (n : Nat) (s : State) (l : LoadId) : mayFire (openSlot n s) l = mayFire s l := by
  simp only [mayFire, load_openSlot, openSlot_par, loadAtOpen]

theorem openSlot_on {n : Nat} {l : LoadId} : (load (openSlot n s) l).on = true ↔
    (slotOf s.par.frame.grid n).placed.get l = true ∧ isSolo (slotOf s.par.frame.grid n) l = false ∧ mayFire s l = true := by
  simp [load_openSlot, loadAtOpen, mayFire, and_assoc]

theorem firingLaw_openSlot (n : Nat) (firing : s.par.frame.state = .firing) (ok : GridOk s.par.frame.inForce s.par.frame.grid) :
    FiringLaw (openSlot n s) := by
  refine ⟨fun l on => ?_, fun m g => ?_, fun m g => ?_⟩
  · obtain ⟨placed, -, fire⟩ := openSlot_on.1 on
    obtain ⟨mask, withdrawn⟩ := mayFire_iff.1 (mayFire_openSlot n s l ▸ fire)
    rw [openSlot_par] at withdrawn ⊢
    exact ⟨mask, withdrawn, firing, placed⟩
  · rw [openSlot_par]; exact (ok m).capacity g
  · rw [openSlot_par]; exact (ok m).solo g

theorem soloLaw_openSlot (n : Nat) (s : State) : SoloLaw (openSlot n s) := by
  refine ⟨fun l on solo => ?_, fun g m e => ?_, fun g m e stands => ?_, fun g m e _ _ past => ?_⟩
  · obtain ⟨-, other, -⟩ := openSlot_on.1 on
    rw [openSlot_par] at solo
    exact absurd solo (by simp [other])
  · rw [legMeasurement_openSlot] at e
    rw [openSlot_par]
    obtain ⟨l, hl, rfl⟩ := Option.map_eq_some_iff.1 e
    exact hl
  · rw [legMeasurement_openSlot] at e
    obtain ⟨l, -, rfl⟩ := Option.map_eq_some_iff.1 e
    rw [← mayFire_iff, mayFire_openSlot]
    simpa [openMeasurement, newMeasurement] using stands
  · rw [openSlot_par] at past
    exact absurd past (by simp)

theorem sameMarks_openSlot (n : Nat) (s : State) : SameMarks s (openSlot n s) :=
  ⟨by rw [openSlot_par], fun l => by rw [load_openSlot]; exact ⟨rfl, rfl, rfl⟩⟩

theorem keeps_openSlot (n : Nat) (firing : s.par.frame.state = .firing) : Keeps s (openSlot n s) :=
  (aside_openSlot n s).kept ((stored_openSlot n s).table (fun h => firingLaw_openSlot n firing h.gridOk)
    (fun _ => soloLaw_openSlot n s) fun _ _ => maskLaw_of_sameMarks (sameMarks_openSlot n s))

end Sys2Proof.Machine
end

section
/-!
SUPPORT. What the ends of slots and half-cycles, the frame start, the loss of the supply and INIT at the arbiter keep.
-/

namespace Sys2Proof.Machine

variable {s t u v : State}

theorem aside_foldl {α : Type} {f : State → α → State} (h : ∀ s a, Aside s (f s a)) (as : List α) (s : State) :
    Aside s (as.foldl f s) := by
  induction as generalizing s with
  | nil => exact .refl
  | cons a as ih => exact (h s a).trans (ih _)

theorem aside_raise (k : Notice) (s : State) : Aside s (raise k s) := aside_of_same rfl rfl rfl rfl (fun _ => rfl) rfl rfl

/-! ## The end of a slot: judging (R28, R29) -/

/-- A load's record as its judged measurement leaves it, HEALTH not yet added. -/
def judgedLoad (hc : Nat) (m : Measurement) (d : Load) : Load :=
  { d with measuredW := some (measuredPower hc m), health := healthBand (measuredPower hc m * 100 / d.ratedW), verifyDue := false }

/-- Whether a health takes a load out of use (R29). -/
def outOfUse (h : Health) : Bool := h == .opened || h == .high

/-- Whether a health is reported by LOAD_FAULT (R29). -/
def reported (h : Health) : Bool := outOfUse h || h == .weak

/-- The end of a judgement: HEALTH and LOAD_FAULT by the band (R29). -/
def markHealth (h : Health) (l : LoadId) (s : State) : State :=
  if outOfUse h then raise .loadFault (addReason .health l s) else if reported h then raise .loadFault s else s

theorem judgeLoad_of_stands {m : Measurement} (h : stands s m = true) : judgeLoad (some m) s =
    markHealth (judgedLoad s.par.frame.inForce.slotHc m (load s m.load)).health m.load
      (updLoad (judgedLoad s.par.frame.inForce.slotHc m) m.load s) := by
  simp only [stands, Bool.and_eq_true, Bool.not_eq_true', beq_iff_eq] at h
  obtain ⟨void, count⟩ := h
  have pass : ¬ (m.void = true ∨ m.count ≠ s.par.frame.inForce.slotHc) := by simp [void, count]
  unfold judgeLoad
  dsimp only
  rw [if_neg pass]
  simp only [judgedLoad, updLoad]
  cases healthBand (measuredPower s.par.frame.inForce.slotHc m * 100 / (load s m.load).ratedW) <;> rfl

theorem judgeLoad_of_not_stands {m : Measurement} (h : stands s m = false) : judgeLoad (some m) s = s := by
  have skip : m.void = true ∨ m.count ≠ s.par.frame.inForce.slotHc := by
    simp only [stands, Bool.and_eq_false_iff, Bool.not_eq_false', beq_eq_false_iff_ne] at h
    exact h
  unfold judgeLoad
  dsimp only
  rw [if_pos skip]

/-- All that a judgement can do (R28, R29). -/
theorem judgeLoad_cases (o : Option Measurement) (s : State) : judgeLoad o s = s ∨ ∃ m, o = some m ∧ stands s m = true
    ∧ judgeLoad o s = markHealth (judgedLoad s.par.frame.inForce.slotHc m (load s m.load)).health m.load
      (updLoad (judgedLoad s.par.frame.inForce.slotHc m) m.load s) := by
  cases o with
  | none => exact .inl rfl
  | some m =>
    cases h : stands s m
    · exact .inl (judgeLoad_of_not_stands h)
    · exact .inr ⟨m, rfl, h, judgeLoad_of_stands h⟩

theorem load_markHealth (h : Health) (l k : LoadId) (s : State) :
    load (markHealth h l s) k = if outOfUse h then load (addReason .health l s) k else load s k := by
  unfold markHealth
  split
  · rw [raise_load]
  · split
    · rw [raise_load]
    · rfl

theorem load_judgeLoad_other {o : Option Measurement} {k : LoadId} (h : ∀ m, o = some m → m.load ≠ k) (s : State) :
    load (judgeLoad o s) k = load s k := by
  obtain e | ⟨m, hm, -, e⟩ := judgeLoad_cases o s <;> rw [e]
  have ne : ¬ k = m.load := fun c => h m hm c.symm
  rw [load_markHealth]
  split
  · rw [load_addReason, if_neg fun c => ne c.1, load_updLoad_other _ _ ne]
  · rw [load_updLoad_other _ _ ne]

/-- HEALTH stands exactly on the loads out of use (Table 2.3). -/
def HealthMarked (s : State) : Prop := ∀ l, (load s l).mask.health = outOfUse (load s l).health

theorem healthMarked_judgeLoad {o : Option Measurement} (clear : ∀ m, o = some m → stands s m = true →
    (load s m.load).mask.health = false) (h : HealthMarked s) : HealthMarked (judgeLoad o s) := by
  intro l
  obtain e | ⟨m, hm, standing, e⟩ := judgeLoad_cases o s <;> rw [e]
  · exact h l
  by_cases hl : l = m.load
  · subst hl
    have band : (load (updLoad (judgedLoad s.par.frame.inForce.slotHc m) m.load s) m.load).health
        = (judgedLoad s.par.frame.inForce.slotHc m (load s m.load)).health := by rw [load_updLoad_same]
    rw [load_markHealth]
    split
    · rename_i out
      have has : (load (addReason .health m.load (updLoad (judgedLoad s.par.frame.inForce.slotHc m) m.load s)) m.load).mask.health
          = true := addReason_has .health m.load _
      rw [has, load_addReason]
      split
      · exact (congrArg outOfUse band).symm ▸ out.symm
      · exact (congrArg outOfUse band).symm ▸ out.symm
    · rename_i out
      rw [load_updLoad_same]
      rw [Bool.not_eq_true] at out
      exact (clear m hm standing).trans out.symm
  · have other : load (markHealth (judgedLoad s.par.frame.inForce.slotHc m (load s m.load)).health m.load
        (updLoad (judgedLoad s.par.frame.inForce.slotHc m) m.load s)) l = load s l := by
      rw [← e]
      exact load_judgeLoad_other (fun k hk => by rw [hm] at hk; cases hk; exact fun c => hl c.symm) s
    rw [other]; exact h l

theorem dims_judge {P : State → Prop} (keep : ∀ {s t : State}, OnlyDims s t → P s → P t) (o : Option Measurement) (h : P s) :
    P (judgeLoad o s) := by
  obtain e | ⟨m, -, -, e⟩ := judgeLoad_cases o s <;> rw [e]
  · exact h
  have judged : P (updLoad (judgedLoad s.par.frame.inForce.slotHc m) m.load s) := keep (onlyDims_updLoad rfl id) h
  unfold markHealth
  split
  · exact keep (s := addReason .health m.load _) (.of_same rfl rfl) (keep (onlyDims_addReason ..) judged)
  · split
    · exact keep (s := updLoad _ m.load s) (.of_same rfl rfl) judged
    · exact judged

theorem markHealth_aside (h : Health) (l : LoadId) (s : State) : Aside s (markHealth h l s) := by
  unfold markHealth
  split
  · exact (aside_putReason (by decide) (by decide) (by decide) true l s).trans (aside_raise _ _)
  · split
    · exact aside_raise _ _
    · exact .refl

theorem aside_judgeLoad (o : Option Measurement) (s : State) : Aside s (judgeLoad o s) := by
  obtain e | ⟨m, -, -, e⟩ := judgeLoad_cases o s <;> rw [e]
  · exact .refl
  · exact (aside_updLoad (f := judgedLoad s.par.frame.inForce.slotHc m) (fun _ => rfl) _ _).trans (markHealth_aside ..)

theorem load_putReason_numbers (b : Bool) (r : Reason) (l k : LoadId) (s : State) :
    loadNumbers (load (putReason b r l s) k) = loadNumbers (load s k) := by
  have fixed : fixedLoad (load (putReason b r l s) k) = fixedLoad (load s k) :=
    fixed_load (by cases b; exact fixed_removeReason r l s; exact fixed_addReason r l s) k
  simp only [fixedLoad, Prod.mk.injEq] at fixed
  simp only [loadNumbers, load_putReason_demand, fixed]

theorem putReason_par (b : Bool) (r : Reason) (l : LoadId) (s : State) :
    ((putReason b r l s).par.supply, (putReason b r l s).par.placement, (putReason b r l s).par.lists,
      (putReason b r l s).par.frame.state) = (s.par.supply, s.par.placement, s.par.lists, s.par.frame.state) := by
  cases b
  · rfl
  · simp only [putReason, if_true, addReason]
    split
    · rfl
    · unfold withdraw; split <;> rfl

theorem stored_putReason (b : Bool) (r : Reason) (l : LoadId) (s : State) : Stored s (putReason b r l s) := by
  obtain ⟨clc, sgc, run, msu⟩ := putReason_blocks b r l s
  obtain ⟨lif, pst⟩ := putReason_lif b r l s
  have par := putReason_par b r l s
  simp only [Prod.mk.injEq] at par
  obtain ⟨supply, placement, lists, -⟩ := par
  refine stored_of_same (fun k => load_putReason_numbers b r l k s) ?_ ?_ (by rw [msu]; exact id)
  · rw [supply, placement, lists]
  · rw [clc, sgc, run, pst, lif]

theorem stored_updLoad {f : Load → Load} (numbers : ∀ d, loadNumbers (f d) = loadNumbers d) (l : LoadId) (s : State) :
    Stored s (updLoad f l s) := by
  refine stored_of_same (fun k => ?_) rfl rfl id
  rw [load_updLoad]
  split
  · subst k; exact numbers _
  · rfl

theorem stored_raise (k : Notice) (s : State) : Stored s (raise k s) := stored_of_same (fun _ => rfl) rfl rfl id

theorem stored_judgeLoad (o : Option Measurement) (s : State) : Stored s (judgeLoad o s) := by
  obtain e | ⟨m, -, -, e⟩ := judgeLoad_cases o s <;> rw [e]
  · exact stored_of_same (fun _ => rfl) rfl rfl id
  have judged : Stored s (updLoad (judgedLoad s.par.frame.inForce.slotHc m) m.load s) :=
    stored_updLoad (f := judgedLoad s.par.frame.inForce.slotHc m) (fun _ => rfl) _ _
  unfold markHealth
  split
  · exact (judged.trans (stored_putReason true .health _ _)).trans (stored_raise _ _)
  · split
    · exact judged.trans (stored_raise _ _)
    · exact judged

theorem judgeLoad_state (o : Option Measurement) (s : State) :
    fixedFrame (judgeLoad o s).par.frame = fixedFrame s.par.frame
      ∧ ∀ l, (load (judgeLoad o s) l).mask.supply = (load s l).mask.supply := by
  obtain e | ⟨m, -, -, e⟩ := judgeLoad_cases o s <;> rw [e]
  · exact ⟨rfl, fun _ => rfl⟩
  have marks (l : LoadId) : (load (updLoad (judgedLoad s.par.frame.inForce.slotHc m) m.load s) l).mask = (load s l).mask := by
    rw [load_updLoad]; split
    · subst l; rfl
    · rfl
  refine ⟨?_, fun l => ?_⟩
  · unfold markHealth
    split
    · exact addReason_frame .health m.load _
    · split <;> rfl
  · rw [load_markHealth]
    split
    · exact (addReason_other (q := .supply) (by decide) m.load l _).trans (congrArg Mask.supply (marks l))
    · rw [marks]

/-- Both measurements are taken off their legs (R25). -/
def measClosed (s : State) : State := { s with ldt := { s.ldt with measA := .none, measB := .none } }

theorem closeMeasurements_eq (s : State) :
    closeMeasurements s = judgeLoad s.ldt.measB (judgeLoad s.ldt.measA (measClosed s)) := rfl

theorem legMeasurement_measClosed (g : Leg) (s : State) : legMeasurement (measClosed s) g = none := by cases g <;> rfl

theorem dims_measClosed (s : State) : OnlyDims s (measClosed s) :=
  ⟨rfl, fun _ on => ⟨on, id⟩, fun g m e => by rw [legMeasurement_measClosed] at e; exact absurd e (by simp)⟩

/-- The two legs measure two loads (R52). -/
theorem measured_apart (firing : FiringLaw s) (solo : SoloLaw s) {a b : Measurement} (ha : s.ldt.measA = some a)
    (hb : s.ldt.measB = some b) : a.load ≠ b.load := by
  have legA := ((firing.gridOk _).solo_placed (solo.held .a a ha)).2
  have legB := ((firing.gridOk _).solo_placed (solo.held .b b hb)).2
  intro e
  rw [e, legB] at legA
  exact absurd legA (by decide)

theorem healthMarked_closeMeasurements (firing : FiringLaw s) (solo : SoloLaw s) (h : HealthMarked s) :
    HealthMarked (closeMeasurements s) := by
  have free {g : Leg} {m : Measurement} (hm : legMeasurement s g = some m) {w : State} (standing : stands w m = true) :
      (load s m.load).mask.health = false := by
    simp only [stands, Bool.and_eq_true, Bool.not_eq_true'] at standing
    exact (Mask.isEmpty_iff _).1 (solo.standing g m hm standing.1).1 .health
  rw [closeMeasurements_eq]
  refine healthMarked_judgeLoad (fun m hm standing => ?_) (healthMarked_judgeLoad (fun m hm standing => ?_) h)
  · rw [load_judgeLoad_other (fun a ha => measured_apart firing solo ha hm)]
    exact free (g := .b) hm standing
  · exact free (g := .a) hm standing

theorem keeps_closeMeasurements (s : State) : Keeps s (closeMeasurements s) := by
  have dims {P : State → Prop} (keep : ∀ {s t : State}, OnlyDims s t → P s → P t) (h : P s) : P (closeMeasurements s) := by
    rw [closeMeasurements_eq]
    exact dims_judge keep _ (dims_judge keep _ (keep (dims_measClosed s) h))
  have aside : Aside s (closeMeasurements s) :=
    ((aside_of_same (s := s) (t := measClosed s) rfl rfl rfl rfl (fun _ => rfl) rfl rfl).trans (aside_judgeLoad _ _)).trans
      (aside_judgeLoad _ _)
  have stored : Stored s (closeMeasurements s) :=
    ((stored_of_same (s := s) (t := measClosed s) (fun _ => rfl) rfl rfl id).trans (stored_judgeLoad _ _)).trans
      (stored_judgeLoad _ _)
  refine aside.kept (stored.table (dims fun d => d.firing) (dims fun d => d.solo) fun firing solo h => ⟨fun l => ?_, ?_⟩)
  · obtain ⟨frameA, supplyA⟩ := judgeLoad_state s.ldt.measA (measClosed s)
    obtain ⟨frameB, supplyB⟩ := judgeLoad_state s.ldt.measB (judgeLoad s.ldt.measA (measClosed s))
    rw [closeMeasurements_eq, supplyB, supplyA, (fixedFrame_eq frameB).1, (fixedFrame_eq frameA).1]
    exact h.supply l
  · exact healthMarked_closeMeasurements firing solo h.health

/-! ## Half-cycles (R26, R44) -/

/-- A measurement that takes a record is of the same load, and void if it was (R26, R27). -/
theorem takeRecord_load (h v : Nat) (a : Option Nat) (faulted : Bool) (m : Measurement) :
    (takeRecord h v a faulted m).load = m.load ∧ ((takeRecord h v a faulted m).void = false → m.void = false) := by
  refine ⟨rfl, fun void => ?_⟩
  simp only [takeRecord, Bool.or_eq_false_iff] at void
  exact void.1.1

theorem legMeasurement_takeHalfCycle (r : HalfCycle) (s : State) (g : Leg) : legMeasurement (takeHalfCycle r s) g =
    (legMeasurement s g).map (takeRecord s.par.frame.half r.volts (legAmps r g) (legFaulted s g)) := by
  cases g <;> rfl

theorem dims_takeHalfCycle (r : HalfCycle) (s : State) : OnlyDims s (takeHalfCycle r s) := by
  refine ⟨rfl, fun _ on => ⟨on, id⟩, fun g m e => ?_⟩
  rw [legMeasurement_takeHalfCycle] at e
  obtain ⟨k, hk, rfl⟩ := Option.map_eq_some_iff.1 e
  exact ⟨k, hk, rfl, fun v => ⟨(takeRecord_load _ _ _ _ k).2 v, id, id⟩⟩

theorem keeps_takeHalfCycle (r : HalfCycle) (s : State) : Keeps s (takeHalfCycle r s) := by
  have aside : Aside s (takeHalfCycle r s) := aside_of_same rfl rfl rfl rfl (fun _ => rfl) rfl rfl
  have stored : Stored s (takeHalfCycle r s) := stored_of_same (fun _ => rfl) rfl rfl id
  exact aside.kept (stored.table (dims_takeHalfCycle r s).firing (dims_takeHalfCycle r s).solo
    fun _ _ => maskLaw_of_sameMarks ⟨rfl, fun _ => ⟨rfl, rfl, rfl⟩⟩)

theorem keeps_keepRecord (r : Option HalfCycle) (s : State) : Keeps s (keepRecord r s) := by
  unfold keepRecord
  split
  · exact .refl
  · rename_i r
    have latest : Keeps s { s with msu := { s.msu with
        latest := some r, freshV := true, freshA := true, freshB := r.ampsB.isSome } } :=
      keeps_msu (countsOk_congr fun c => by cases c <;> rfl)
    exact latest.trans (keeps_takeHalfCycle r _)

theorem keeps_openHalfCycle (s : State) : Keeps s (openHalfCycle s) := keeps_msu (countsOk_congr fun c => by cases c <;> rfl)

/-- The half-cycle number is written. -/
def halfWritten (n : Nat) (s : State) : State := { s with par := { s.par with frame := { s.par.frame with half := n } } }



/-- A load is switched on, and the rest of its record stays as it was. -/
def switchedOn (b : Bool) (d : Load) : Load := { d with on := b || d.on }

@[simp] theorem switchedOn_false (d : Load) : switchedOn false d = d := rfl

theorem fireSolo_spec (o : Option LoadId) (s : State) : shell (fireSolo s o) = shell s
    ∧ ∀ k, load (fireSolo s o) k = switchedOn (o == some k && mayFire s k) (load s k) := by
  cases o with
  | none => exact ⟨rfl, fun k => rfl⟩
  | some l =>
    by_cases fires : mayFire s l = true
    · rw [show fireSolo s (some l) = _ from if_pos fires]
      refine ⟨rfl, fun k => ?_⟩
      rw [load_updLoad]
      by_cases e : k = l
      · subst e; simp [switchedOn, fires]
      · simp [e, beq_false_of_ne (Ne.symm e)]
    · rw [show fireSolo s (some l) = _ from if_neg fires]
      refine ⟨rfl, fun k => ?_⟩
      by_cases e : l = k
      · subst e; simp [fires]
      · simp [beq_false_of_ne e]

/-- The end of the baseline switches on the solo loads that may fire, and does nothing else (R44). -/
theorem endBaseline_spec (s : State) : shell (endBaseline s) = shell s ∧ ∀ k, load (endBaseline s) k
    = switchedOn (isSolo (slotOf s.par.frame.grid s.par.frame.slot) k && mayFire s k) (load s k) := by
  obtain ⟨shellA, loadA⟩ := fireSolo_spec (slotOf s.par.frame.grid s.par.frame.slot).soloA s
  obtain ⟨shellB, loadB⟩ := fireSolo_spec (slotOf s.par.frame.grid s.par.frame.slot).soloB
    (fireSolo s (slotOf s.par.frame.grid s.par.frame.slot).soloA)
  refine ⟨shellB.trans shellA, fun k => (loadB k).trans ?_⟩
  have fires : mayFire (fireSolo s (slotOf s.par.frame.grid s.par.frame.slot).soloA) k = mayFire s k := by
    simp only [mayFire, loadA, switchedOn, shell_par shellA]
  rw [fires, loadA]
  simp only [switchedOn, isSolo, Load.mk.injEq, true_and]
  cases (slotOf s.par.frame.grid s.par.frame.slot).soloA == some k <;>
    cases (slotOf s.par.frame.grid s.par.frame.slot).soloB == some k <;> simp

/-- The half-cycle number is counted on; at the end of half-cycle 4 the solo loads are switched on before (R42, R44). -/
def halfCounted (s : State) : State :=
  halfWritten (s.par.frame.half + 1) (if s.par.frame.half = 4 then endBaseline s else s)

theorem halfCounted_shell (s : State) : shell (halfCounted s) = shell (halfWritten (s.par.frame.half + 1) s) := by
  unfold halfCounted
  split
  · have h := (endBaseline_spec s).1
    have par := shell_par h
    unfold halfWritten
    rw [par]
    exact congrArg (fun u : State => { u with
      par := { s.par with frame := { s.par.frame with half := s.par.frame.half + 1 } } }) h
  · rfl

theorem halfCounted_load (s : State) (l : LoadId) : load (halfCounted s) l
    = switchedOn (decide (s.par.frame.half = 4) && (isSolo (slotOf s.par.frame.grid s.par.frame.slot) l && mayFire s l)) (load s l) := by
  unfold halfCounted
  split
  · rename_i h
    rw [show load (halfWritten (s.par.frame.half + 1) (endBaseline s)) l = load (endBaseline s) l from rfl, (endBaseline_spec s).2,
      h]
    rfl
  · rename_i h
    simp only [h, decide_false, Bool.false_and]
    rfl

theorem halfCounted_par (s : State) :
    (halfCounted s).par = { s.par with frame := { s.par.frame with half := s.par.frame.half + 1 } } :=
  shell_par (halfCounted_shell s)

theorem halfCounted_fires (s : State) (l : LoadId) : mayFire (halfCounted s) l = mayFire s l := by
  simp only [mayFire, halfCounted_load, halfCounted_par, switchedOn]

theorem firingLaw_halfCounted (firing : s.par.frame.state = .firing) (h : FiringLaw s) : FiringLaw (halfCounted s) := by
  refine ⟨fun l on => ?_, fun n g => ?_, fun n g => ?_⟩
  · have allowed : mayFire s l = true ∧ (slotOf s.par.frame.grid s.par.frame.slot).placed.get l = true := by
      rw [halfCounted_load, switchedOn] at on
      simp only [Bool.or_eq_true, Bool.and_eq_true] at on
      obtain ⟨-, solo, fires⟩ | on := on
      · obtain ⟨g, hg⟩ := isSolo_iff.1 solo
        exact ⟨fires, ((h.gridOk _).solo_placed hg).1⟩
      · obtain ⟨mask, withdrawn, -, placed⟩ := h.on_allowed l on
        exact ⟨mayFire_iff.2 ⟨mask, withdrawn⟩, placed⟩
    obtain ⟨mask, withdrawn⟩ := mayFire_iff.1 ((halfCounted_fires s l).trans allowed.1)
    rw [halfCounted_par] at withdrawn ⊢
    exact ⟨mask, withdrawn, firing, allowed.2⟩
  · rw [halfCounted_par]; exact h.capacity n g
  · rw [halfCounted_par]; exact h.solo n g

theorem legMeasurement_halfCounted (s : State) (g : Leg) : legMeasurement (halfCounted s) g = legMeasurement s g := by
  rw [shell_meas (halfCounted_shell s)]
  cases g <;> rfl

theorem soloLaw_halfCounted (h : SoloLaw s) : SoloLaw (halfCounted s) := by
  refine ⟨fun l on solo => ?_, fun g m e => ?_, fun g m e v => ?_, fun g m e v firing past => ?_⟩
  · rw [halfCounted_par] at solo ⊢
    have past : 4 < s.par.frame.half + 1 := by
      rw [halfCounted_load, switchedOn] at on
      simp only [Bool.or_eq_true, Bool.and_eq_true, decide_eq_true_eq] at on
      obtain ⟨four, -⟩ | on := on
      · omega
      · have := h.baseline l on solo; omega
    exact past
  · rw [legMeasurement_halfCounted] at e
    rw [halfCounted_par]
    exact h.held g m e
  · rw [legMeasurement_halfCounted] at e
    rw [← mayFire_iff, halfCounted_fires]
    exact mayFire_iff.2 (h.standing g m e v)
  · rw [legMeasurement_halfCounted] at e
    rw [halfCounted_par] at firing past
    have past : 4 < s.par.frame.half + 1 := past
    rw [halfCounted_load, switchedOn]
    simp only [Bool.or_eq_true, Bool.and_eq_true, decide_eq_true_eq]
    by_cases four : s.par.frame.half = 4
    · exact .inl ⟨four, isSolo_iff.2 ⟨g, h.held g m e⟩, mayFire_iff.2 (h.standing g m e v)⟩
    · exact .inr (h.fired g m e v firing (by omega))

theorem keeps_halfCounted (firing : s.par.frame.state = .firing) : Keeps s (halfCounted s) := by
  have aside : Aside s (halfCounted s) :=
    (aside_of_same (s := s) (t := halfWritten (s.par.frame.half + 1) s) rfl rfl rfl rfl (fun _ => rfl) rfl rfl).trans
      (aside_of_shell (halfCounted_shell s) fun l => by rw [halfCounted_load]; rfl)
  have stored : Stored s (halfCounted s) :=
    (stored_of_same (s := s) (t := halfWritten (s.par.frame.half + 1) s) (fun _ => rfl) rfl rfl id).trans
      (stored_of_shell (halfCounted_shell s) fun l => by rw [halfCounted_load]; rfl)
  exact aside.kept (stored.table (firingLaw_halfCounted firing) soloLaw_halfCounted fun _ _ => maskLaw_of_sameMarks
    ⟨by rw [halfCounted_par], fun l => by rw [halfCounted_load]; exact ⟨rfl, rfl, rfl⟩⟩)

end Sys2Proof.Machine
end

section
/-!
SUPPORT. What the start of a frame, the zero-cross, the loss of the supply and INIT at the arbiter keep.
-/

namespace Sys2Proof.Machine

variable {s t u v : State}

/-! ## The build and the rotation (R51 to R55) -/

/-- The new frame's schedule and values in force, before the loads' frame fields (R51 to R54). -/
def frameWritten (s : State) : State :=
  { s with
    par := { s.par with frame := { s.par.frame with
      grid := schedule s, inForce := valuesNow s, withdrawn := .of fun _ => false } }
    msu := { s.msu with legBTail := false } }

/-- A load's record with its frame fields (R54). -/
def servedLoad (g : List Slot) (l : LoadId) (d : Load) : Load :=
  { d with served := quantaIn g l, shortfall := d.demand - quantaIn g l }

theorem load_build (s : State) (l : LoadId) : load (build s) l = servedLoad (schedule s) l (load s l) :=
  load_foldl_updLoad (s := frameWritten s) (f := servedLoad (schedule s)) (fun _ _ _ => rfl) l

theorem shell_build (s : State) : shell (build s) = shell (frameWritten s) :=
  shell_foldl_updLoad (s := frameWritten s) (f := servedLoad (schedule s)) fun _ _ _ => rfl

theorem aside_build (s : State) : Aside s (build s) :=
  (aside_of_same (s := s) (t := frameWritten s) rfl rfl rfl rfl (fun _ => rfl) rfl rfl).trans
    (aside_of_shell (shell_build s) fun l => by rw [load_build]; rfl)

theorem stored_build (s : State) : Stored s (build s) :=
  (stored_of_same (s := s) (t := frameWritten s) (fun _ => rfl) rfl rfl (countsOk_congr fun c => by cases c <;> rfl)).trans
    (stored_of_shell (shell_build s) fun l => by rw [load_build]; rfl)

theorem rotateList_count (s : State) (p : Policy) (ls : List LoadId) (once : ∀ l, ls.count l ≤ 1) (k : LoadId) :
    (rotateList s p ls).count k = ls.count k := by
  unfold rotateList
  split
  · rfl
  · split
    · rename_i l found
      have mem : l ∈ ls := List.mem_of_find?_eq_some found
      have one : ls.count l = 1 := le_antisymm (once l) (List.count_pos_iff.2 mem)
      rw [toTail, List.count_append]
      by_cases e : k = l
      · subst e
        rw [List.count_eq_zero_of_not_mem (by simp), one]
        simp
      · rw [List.count_filter (by simpa using e), List.count_singleton, if_neg (by simpa using Ne.symm e), Nat.add_zero]
    · rfl

theorem ListLaw.count_le_one (h : ListLaw s) {c : Nat} (hc : c ≤ 3) (l : LoadId) : (s.par.lists.get c).count l ≤ 1 := by
  rw [h.once c hc l]; split <;> omega

theorem listLaw_rotateClasses (h : ListLaw s) : ListLaw (rotateClasses s) := by
  refine ⟨h.own_class, fun c hc l => ?_, h.placement⟩
  refine Eq.trans ?_ (h.once c hc l)
  have same (p : Policy) {c : Nat} (hc : c ≤ 3) := rotateList_count s p (s.par.lists.get c) (h.count_le_one hc) l
  obtain rfl | rfl | rfl | rfl : c = 0 ∨ c = 1 ∨ c = 2 ∨ c = 3 := by omega
  · exact same s.par.policies.c0 (c := 0) (by omega)
  · exact same s.par.policies.c1 (c := 1) (by omega)
  · exact same s.par.policies.c2 (c := 2) (by omega)
  · exact same s.par.policies.c3 (c := 3) (by omega)

theorem stored_rotateClasses (s : State) : Stored s (rotateClasses s) where
  bounded b := ⟨b.1.demands, b.1.entry, b.1.loops, b.1.steam, b.1.boiler, b.1.run, b.1.runs⟩
  list := listLaw_rotateClasses
  config := fun ⟨a, b, c, d, e, f, g⟩ => ⟨a, b, c, d, e, f, g⟩
  store := storeLaw_congr rfl rfl

theorem aside_rotateClasses (s : State) : Aside s (rotateClasses s) :=
  aside_of_same rfl rfl rfl rfl (fun _ => rfl) rfl rfl

/-! ## The start of a frame (R41) -/

/-- The frame built, rotated and FIRING, no slot open yet. -/
def frameBuilt (s : State) : State :=
  let s := rotateClasses (build s)
  { s with par := { s.par with frame := { s.par.frame with state := .firing } } }

theorem beginFrame_eq (s : State) : beginFrame s = openSlot 0 (frameBuilt (removeReasonFrom .overload allLoads s)) := rfl

theorem frameBuilt_load (s : State) (l : LoadId) : load (frameBuilt s) l = servedLoad (schedule s) l (load s l) :=
  load_build s l

theorem frameBuilt_frame (s : State) : (frameBuilt s).par.frame = { s.par.frame with
    grid := schedule s, inForce := valuesNow s, withdrawn := .of fun _ => false, state := .firing } :=
  congrArg (fun f : Frame => { f with state := .firing })
    (view_of_shell (fun u : State => u.par.frame) (shell_build s) : (build s).par.frame = (frameWritten s).par.frame)

theorem aside_frameBuilt (s : State) : Aside s (frameBuilt s) :=
  ((aside_build s).trans (aside_rotateClasses _)).trans (aside_of_same rfl rfl rfl rfl (fun _ => rfl) rfl rfl)

theorem stored_frameBuilt (s : State) : Stored s (frameBuilt s) :=
  ((stored_build s).trans (stored_rotateClasses _)).trans
    (stored_of_same (s := rotateClasses (build s)) (t := frameBuilt s) (fun _ => rfl) rfl rfl id)

theorem gridOk_frameBuilt (s : State) : GridOk (frameBuilt s).par.frame.inForce (frameBuilt s).par.frame.grid := by
  rw [frameBuilt_frame]; exact gridOk_schedule s

/-- A frame starts where no load carries SUPPLY: every law of the load table holds of it (R41, R51 to R54). -/
theorem table_frameOpened (stored : Stored s t) (supply : MaskLaw s → ∀ l, (load t l).mask.supply = false)
    (health : MaskLaw s → HealthMarked t) : TableKeeps s (openSlot 0 (frameBuilt t)) := by
  have frame := frameBuilt_frame t
  refine ((stored.trans (stored_frameBuilt t)).trans (stored_openSlot 0 _)).table
    (fun _ => firingLaw_openSlot 0 (by rw [frame]) (gridOk_frameBuilt t)) (fun _ => soloLaw_openSlot 0 _)
    fun _ _ h => maskLaw_of_sameMarks (sameMarks_openSlot 0 _) ⟨fun l => ?_, fun l => ?_⟩
  · rw [frameBuilt_load, frame]; exact supply h l
  · rw [frameBuilt_load]; exact health h l

theorem HealthMarked.removeReason {r : Reason} (h : HealthMarked s) (ne : r ≠ .health) (ls : List LoadId) :
    HealthMarked (removeReasonFrom r ls s) := fun l => by
  have has : (load (removeReasonFrom r ls s) l).mask.health = (load s l).mask.health :=
    (removeReasonFrom_has r .health ls l s).trans (by rw [beq_false_of_ne ne.symm]; rfl)
  have same : (load (removeReasonFrom r ls s) l).health = (load s l).health :=
    congrArg (fun d => d.2.2.2.1) (fixed_load (fixed_removeReasonFrom r ls s) l)
  rw [has, same]; exact h l

theorem stored_removeReasonFrom (r : Reason) (ls : List LoadId) (s : State) : Stored s (removeReasonFrom r ls s) := by
  unfold removeReasonFrom
  induction ls generalizing s with
  | nil => exact stored_of_same (fun _ => rfl) rfl rfl id
  | cons l ls ih => exact (stored_putReason false r l s).trans (ih _)

theorem aside_removeReasonFrom {r : Reason} (pause : r ≠ .pause) (door : r ≠ .door) (fault : r ≠ .faultMode) (ls : List LoadId)
    (s : State) : Aside s (removeReasonFrom r ls s) :=
  aside_foldl (fun s l => aside_putReason pause door fault false l s) ls s

theorem removeReasonFrom_supply {r : Reason} (l : LoadId) (s : State) : (load (removeReasonFrom r allLoads s) l).mask.supply
    = (r != .supply && (load s l).mask.supply) := by
  refine (removeReasonFrom_has r .supply allLoads l s).trans ?_
  rw [decide_eq_true (mem_allLoads l), Bool.and_true]
  cases r <;> rfl

/-- A frame starts where the last one was WAITING or FIRING (R41). -/
theorem keeps_beginFrame (running : s.par.frame.state ≠ .halted) : Keeps s (beginFrame s) := by
  rw [beginFrame_eq]
  refine (((aside_removeReasonFrom (by decide) (by decide) (by decide) allLoads s).trans (aside_frameBuilt _)).trans
    (aside_openSlot 0 _)).kept (table_frameOpened (stored_removeReasonFrom .overload allLoads s) (fun h l => ?_)
      fun h => HealthMarked.removeReason h.health (by decide) _)
  rw [removeReasonFrom_supply, h.supply, beq_false_of_ne running]
  rfl

/-- A frame starts as the supply returns (R46). -/
theorem keeps_resumeFrame (s : State) : Keeps s (beginFrame (removeReasonFrom .supply allLoads s)) := by
  rw [beginFrame_eq]
  refine ((((aside_removeReasonFrom (by decide) (by decide) (by decide) allLoads s).trans
    (aside_removeReasonFrom (by decide) (by decide) (by decide) allLoads _)).trans (aside_frameBuilt _)).trans
    (aside_openSlot 0 _)).kept (table_frameOpened
      ((stored_removeReasonFrom .supply allLoads s).trans (stored_removeReasonFrom .overload allLoads _)) (fun _ l => ?_)
      fun h => HealthMarked.removeReason (HealthMarked.removeReason h.health (by decide) _) (by decide) _)
  rw [removeReasonFrom_supply, removeReasonFrom_supply]
  rfl

/-! ## The zero-cross (R10, R41 to R46) -/

theorem closeMeasurements_frame (s : State) : fixedFrame (closeMeasurements s).par.frame = fixedFrame s.par.frame := by
  rw [closeMeasurements_eq]
  exact (judgeLoad_state _ _).1.trans (judgeLoad_state _ (measClosed s)).1

theorem overloadLeg_frame (g : Leg) (s : State) : fixedFrame (overloadLeg g s).par.frame = fixedFrame s.par.frame :=
  view_foldl (view := fun u : State => fixedFrame u.par.frame) (fun s l => addReason_frame .overload l (setVerify l s)) _ s

theorem checkLeg_frame (g : Leg) (volts : Nat) (amps : Option Nat) (faulted : Bool) (s : State) :
    fixedFrame (checkLeg g volts amps faulted s).par.frame = fixedFrame s.par.frame := by
  unfold checkLeg
  split
  · rfl
  · split
    · exact overloadLeg_frame g s
    · rfl

theorem checkOverload_frame (r : Option HalfCycle) (s : State) :
    fixedFrame (checkOverload r s).par.frame = fixedFrame s.par.frame := by
  unfold checkOverload
  split
  · rfl
  · dsimp only
    split
    · exact checkLeg_frame ..
    · exact (checkLeg_frame ..).trans (checkLeg_frame ..)

theorem writePattern_frame (p : Pattern) (s : State) : fixedFrame (writePattern p s).par.frame = fixedFrame s.par.frame := by
  have fires (l : LoadId) (u : State) : fixedFrame (patternFires l u).par.frame = fixedFrame u.par.frame := rfl
  have holds (l : LoadId) (u : State) : fixedFrame (patternHolds l u).par.frame = fixedFrame u.par.frame :=
    addReason_frame .forceOff l u
  let view (u : State) := fixedFrame u.par.frame
  cases p with
  | none => rfl
  | allOff => exact view_foldl (view := view) (fun u l => holds l u) _ _
  | walk w =>
    refine view_foldl (view := view) (fun u l => ?_) _ { s with svc := { s.svc with pattern := .walk w } }
    split
    · exact fires l u
    · exact holds l u
  | alternate g =>
    refine view_foldl (view := view) (fun u l => ?_) _ { s with svc := { s.svc with pattern := .alternate g } }
    split
    · exact fires l u
    · exact holds l u

theorem advancePattern_frame (s : State) : fixedFrame (advancePattern s).par.frame = fixedFrame s.par.frame := by
  unfold advancePattern
  split
  iterate 2 rfl
  all_goals exact writePattern_frame _ s

theorem keeps_endSlot (r : Option HalfCycle) (firing : s.par.frame.state = .firing) : Keeps s (endSlot r s) := by
  have judged : Keeps s (checkOverload r (closeMeasurements s)) :=
    (keeps_closeMeasurements s).trans (keeps_checkOverload r _)
  have state : (checkOverload r (closeMeasurements s)).par.frame.state = .firing := by
    rw [(fixedFrame_eq ((checkOverload_frame r _).trans (closeMeasurements_frame s))).1, firing]
  refine keeps_ite (judged.trans (keeps_openSlot _ state)) ?_
  refine (judged.trans (keeps_advancePattern _)).trans (keeps_beginFrame ?_)
  rw [(fixedFrame_eq (advancePattern_frame _)).1, state]
  decide

theorem arbiterCross_firing (r : Option HalfCycle) (firing : s.par.frame.state = .firing) :
    arbiterCross r s = if atSlotEnd s then endSlot r s else halfCounted s := by
  unfold arbiterCross halfCounted halfWritten
  rw [firing]

theorem keeps_arbiterCross (r : Option HalfCycle) (s : State) : Keeps s (arbiterCross r s) := by
  cases state : s.par.frame.state with
  | waiting =>
    rw [show arbiterCross r s = beginFrame s by rw [arbiterCross, state]]
    exact keeps_beginFrame (by rw [state]; decide)
  | halted =>
    rw [show arbiterCross r s = beginFrame (removeReasonFrom .supply allLoads s) by rw [arbiterCross, state]]
    exact keeps_resumeFrame s
  | firing =>
    rw [arbiterCross_firing r state]
    exact keeps_ite (keeps_endSlot r state) (keeps_halfCounted state)

theorem keeps_zeroCross (z : Crossing) (s : State) : Keeps s (zeroCross z s) :=
  keeps_ite (((keeps_keepRecord _ s).trans (keeps_arbiterCross _ _)).trans (keeps_openHalfCycle _)) .refl

/-! ## Supply loss (R45) -/

/-- The frame halts, the most recent record goes and the measurements are void; the loads carry SUPPLY already. -/
def supplyHalted (s : State) : State :=
  { s with
    par := { s.par with frame := { s.par.frame with state := .halted } }
    msu := { s.msu with latest := .none, halfOpen := false, freshV := false, freshA := false, freshB := false }
    ldt := { s.ldt with measA := voidAny s.ldt.measA, measB := voidAny s.ldt.measB } }

theorem supplyLost_firing (firing : s.par.frame.state = .firing) :
    supplyLost s = supplyHalted (addReasonTo .supply allLoads s) := by
  unfold supplyLost
  rw [firing]
  rfl

theorem supplyLost_idle (h : s.par.frame.state ≠ .firing) : supplyLost s = s := by
  unfold supplyLost
  cases e : s.par.frame.state with
  | firing => exact absurd e h
  | waiting | halted => rfl

theorem dims_addReasonTo {P : State → Prop} (keep : ∀ {s t : State}, OnlyDims s t → P s → P t) (r : Reason) (ls : List LoadId)
    (h : P s) : P (addReasonTo r ls s) := by
  unfold addReasonTo
  induction ls generalizing s with
  | nil => exact h
  | cons l ls ih => exact ih (keep (onlyDims_addReason r l s) h)

theorem stored_addReasonTo (r : Reason) (ls : List LoadId) (s : State) : Stored s (addReasonTo r ls s) := by
  unfold addReasonTo
  induction ls generalizing s with
  | nil => exact stored_of_same (fun _ => rfl) rfl rfl id
  | cons l ls ih => exact (stored_putReason true r l s).trans (ih _)

theorem masked_off {r : Reason} (h : FiringLaw s) {l : LoadId} (has : (load s l).mask.has r = true) : (load s l).on = false := by
  by_contra on
  rw [Bool.not_eq_false] at on
  have empty := (h.on_allowed l on).1
  rw [(Mask.isEmpty_iff _).1 empty r] at has
  exact absurd has Bool.false_ne_true

theorem voidAny_eq_some {o : Option Measurement} {m : Measurement} (h : voidAny o = some m) :
    m.void = true ∧ ∃ k, o = some k ∧ m.load = k.load := by
  cases o with
  | none => exact absurd h (by simp [voidAny])
  | some k =>
    simp only [voidAny, Option.some.injEq] at h
    subst h
    exact ⟨rfl, k, rfl, rfl⟩

theorem legMeasurement_supplyHalted (g : Leg) (s : State) :
    legMeasurement (supplyHalted s) g = voidAny (legMeasurement s g) := by cases g <;> rfl

theorem keeps_supplyLost (s : State) : Keeps s (supplyLost s) := by
  by_cases firing : s.par.frame.state = .firing
  case neg => rw [supplyLost_idle firing]; exact .refl
  rw [supplyLost_firing firing]
  have has (l : LoadId) : (load (addReasonTo .supply allLoads s) l).mask.has .supply = true := by
    rw [addReasonTo_has, decide_eq_true (mem_allLoads l)]; rfl
  have masked (f : FiringLaw s) : FiringLaw (addReasonTo .supply allLoads s) := dims_addReasonTo OnlyDims.firing _ _ f
  have health (l : LoadId) : (load (addReasonTo .supply allLoads s) l).mask.health = (load s l).mask.health :=
    addReasonTo_has .supply .health allLoads l s
  have same (l : LoadId) : (load (addReasonTo .supply allLoads s) l).health = (load s l).health :=
    congrArg (fun d => d.2.2.2.1) (fixed_load (fixed_addReasonTo .supply allLoads s) l)
  have solo (h : SoloLaw s) : SoloLaw (addReasonTo .supply allLoads s) := dims_addReasonTo OnlyDims.solo _ _ h
  have stored := stored_addReasonTo .supply allLoads s
  have aside : Aside s (addReasonTo .supply allLoads s) :=
    aside_foldl (fun s l => aside_putReason (r := .supply) (by decide) (by decide) (by decide) true l s) allLoads s
  generalize addReasonTo .supply allLoads s = w at *
  have off (f : FiringLaw s) (l : LoadId) : (load (supplyHalted w) l).on = false := masked_off (masked f) (has l)
  have halted : Stored s (supplyHalted w) := stored.trans
    (stored_of_same (s := w) (t := supplyHalted w) (fun _ => rfl) rfl rfl (countsOk_congr fun c => by cases c <;> rfl))
  refine (aside.trans (aside_of_same (s := w) (t := supplyHalted w) rfl rfl rfl rfl (fun _ => rfl) rfl rfl)).kept
    (halted.table (fun f => ?_) (fun h => ?_) fun _ _ h => ⟨fun l => has l, fun l => ?_⟩)
  · exact ⟨fun l on => absurd on (by rw [off f l]; decide), (masked f).capacity, (masked f).solo⟩
  · refine ⟨(solo h).baseline, fun g m e => ?_, fun g m e v => ?_, fun g m e v => ?_⟩
    all_goals
      rw [legMeasurement_supplyHalted] at e
      obtain ⟨void, k, hk, load⟩ := voidAny_eq_some e
    · rw [load]; exact (solo h).held g k hk
    all_goals exact absurd v (by rw [void]; decide)
  · show (load w l).mask.health = outOfUse (load w l).health
    rw [health, same]; exact h.health l

/-! ## INIT at the arbiter (R61) -/

/-- A load's record after INIT at the arbiter, OVERLOAD already gone (R37). -/
def initLoad (d : Load) : Load := { d with served := 0, shortfall := 0, on := false }

/-- The frame record and the measurements as INIT leaves them (R61, R59). -/
def frameCleared (s : State) : State :=
  { s with
    par := { s.par with frame := { s.par.frame with
      state := if s.par.frame.state = .firing then .waiting else s.par.frame.state
      slot := if s.par.frame.state = .firing then 0 else s.par.frame.slot
      half := if s.par.frame.state = .firing then 0 else s.par.frame.half
      grid := emptyGrid, withdrawn := .of fun _ => false } }
    ldt := { s.ldt with measA := .none, measB := .none } }

/-- The loads switched off and their frame fields cleared (R37). -/
def loadsCleared (s : State) : State :=
  allLoads.foldl (fun s l => updLoad (fun d => { d with served := 0, shortfall := 0, on := false }) l s) s

theorem initArbiter_eq (s : State) :
    initArbiter s = frameCleared (loadsCleared (removeReasonFrom .overload allLoads s)) := rfl

theorem load_loadsCleared (s : State) (l : LoadId) : load (loadsCleared s) l = initLoad (load s l) :=
  load_foldl_updLoad (f := fun _ => initLoad) (fun _ _ _ => rfl) l

theorem shell_loadsCleared (s : State) : shell (loadsCleared s) = shell s :=
  shell_foldl_updLoad (f := fun _ => initLoad) fun _ _ _ => rfl

@[simp] theorem load_frameCleared (s : State) (l : LoadId) : load (frameCleared s) l = load s l := rfl

theorem legMeasurement_frameCleared (g : Leg) (s : State) : legMeasurement (frameCleared s) g = none := by cases g <;> rfl

theorem aside_frameCleared (s : State) : Aside s (frameCleared s) :=
  aside_of_same rfl rfl rfl rfl (fun _ => rfl) rfl rfl

theorem stored_frameCleared (s : State) : Stored s (frameCleared s) := stored_of_same (fun _ => rfl) rfl rfl id

theorem load_initArbiter (s : State) (l : LoadId) :
    load (initArbiter s) l = initLoad (load (removeReasonFrom .overload allLoads s) l) := by
  rw [initArbiter_eq, load_frameCleared, load_loadsCleared]

theorem removeReasonFrom_par (r : Reason) (ls : List LoadId) (s : State) : (removeReasonFrom r ls s).par = s.par :=
  removeReasonFrom_blocks (fun _ _ _ => rfl) r ls s

theorem initArbiter_frame (s : State) : (initArbiter s).par.frame = { s.par.frame with
    state := if s.par.frame.state = .firing then .waiting else s.par.frame.state
    slot := if s.par.frame.state = .firing then 0 else s.par.frame.slot
    half := if s.par.frame.state = .firing then 0 else s.par.frame.half
    grid := emptyGrid, withdrawn := .of fun _ => false } := by
  have par := (shell_par (shell_loadsCleared (removeReasonFrom .overload allLoads s))).trans (removeReasonFrom_par _ _ s)
  rw [initArbiter_eq, frameCleared, par]

theorem legMeasurement_initArbiter (g : Leg) (s : State) : legMeasurement (initArbiter s) g = none := by
  rw [initArbiter_eq, legMeasurement_frameCleared]

theorem keeps_initArbiter (s : State) : Keeps s (initArbiter s) := by
  have aside : Aside s (initArbiter s) := by
    rw [initArbiter_eq]
    exact ((aside_removeReasonFrom (by decide) (by decide) (by decide) allLoads s).trans
      (aside_of_shell (shell_loadsCleared _) fun l => by rw [load_loadsCleared]; rfl)).trans (aside_frameCleared _)
  have stored : Stored s (initArbiter s) := by
    rw [initArbiter_eq]
    exact ((stored_removeReasonFrom .overload allLoads s).trans
      (stored_of_shell (shell_loadsCleared _) fun l => by rw [load_loadsCleared]; rfl)).trans (stored_frameCleared _)
  have off (l : LoadId) : (load (initArbiter s) l).on = false := by rw [load_initArbiter]; rfl
  have frame := initArbiter_frame s
  have ok : GridOk (initArbiter s).par.frame.inForce (initArbiter s).par.frame.grid := by rw [frame]; exact gridOk_empty _
  refine aside.kept (stored.table (fun _ => ⟨fun l on => ?_, fun n g => (ok n).capacity g, fun n g => (ok n).solo g⟩)
    (fun _ => ⟨fun l on => ?_, fun g m e => ?_, fun g m e => ?_, fun g m e => ?_⟩) fun _ _ h => ⟨fun l => ?_, fun l => ?_⟩)
  iterate 2 exact absurd on (by rw [off]; decide)
  iterate 3 exact absurd e (by rw [legMeasurement_initArbiter]; simp)
  · have supply : (load (initArbiter s) l).mask.supply = (load s l).mask.supply := by
      rw [load_initArbiter]
      exact removeReasonFrom_supply l s
    rw [supply, frame, h.supply]
    cases s.par.frame.state <;> rfl
  · rw [load_initArbiter]
    exact HealthMarked.removeReason (r := .overload) h.health (by decide) allLoads l

end Sys2Proof.Machine
end

section
/-!
SUPPORT. What the configuration requests, VERIFY and CLEAR_FAULT keep.
-/

namespace Sys2Proof.Machine

variable {s t u v : State}

/-! ## Writes beside the load table -/

theorem onlyDims_of_frame (ldt : t.ldt = s.ldt) (frame : t.par.frame = s.par.frame) : OnlyDims s t := by
  have hl (l : LoadId) : load t l = load s l := load_congr ldt l
  have hf (l : LoadId) : mayFire t l = mayFire s l := by simp only [mayFire, hl, frame]
  have hm (g : Leg) : legMeasurement t g = legMeasurement s g := by cases g <;> simp only [legMeasurement, ldt]
  exact ⟨by rw [frame], fun l on => ⟨by rwa [hl] at on, by rw [hf]; exact id⟩,
    fun g m e => ⟨m, by rwa [hm] at e, rfl, fun v => ⟨v, by rw [hf]; exact id, by rw [hl]; exact id⟩⟩⟩

/-- A write that reaches neither the load table nor the frame. -/
theorem Aside.configured (aside : Aside s t) (stored : Stored s t) (ldt : t.ldt = s.ldt := by rfl)
    (frame : t.par.frame = s.par.frame := by rfl) : Keeps s t :=
  aside.kept (stored.table (onlyDims_of_frame ldt frame).firing (onlyDims_of_frame ldt frame).solo
    fun _ _ => maskLaw_of_sameMarks ⟨by rw [frame], fun l => by rw [load_congr ldt]; exact ⟨rfl, rfl, rfl⟩⟩)

theorem keeps_notices (s : State) (n : Notices) : Keeps s { s with lif := { s.lif with notices := n } } :=
  (StepActs.refl.tail (.quiet (writes_lif (u := s) .refl { s.lif with notices := n }) ⟨rfl, rfl, rfl, rfl⟩)).kept

/-- The scale account's configuration is no law's of these. -/
theorem keeps_sca (s : State) (a : Sca) : Keeps s { s with sca := a } :=
  Aside.configured (s := s) (t := { s with sca := a }) (aside_of_same rfl rfl rfl rfl (fun _ => rfl) rfl rfl)
    (stored_of_same (fun _ => rfl) rfl rfl id)

/-! ## SET_LOAD and the rotation lists (R34, R48 to R50) -/

theorem perClass_get_set {α : Type} (p : PerClass α) {c d : Nat} (hc : c ≤ 3) (hd : d ≤ 3) (a : α) :
    (p.set c a).get d = if d = c then a else p.get d := by
  obtain rfl | rfl | rfl | rfl : c = 0 ∨ c = 1 ∨ c = 2 ∨ c = 3 := by omega
  all_goals obtain rfl | rfl | rfl | rfl : d = 0 ∨ d = 1 ∨ d = 2 ∨ d = 3 := by omega
  all_goals rfl

theorem count_toTail (l k : LoadId) (ls : List LoadId) : (toTail l ls).count k = if k = l then 1 else ls.count k := by
  rw [toTail, List.count_append, List.count_singleton]
  by_cases e : k = l
  · subst e
    rw [List.count_eq_zero_of_not_mem (by simp)]
    simp
  · rw [List.count_filter (by simpa using e), if_neg e]
    simp [Ne.symm e]

theorem count_remove (l k : LoadId) (ls : List LoadId) :
    (ls.filter fun x => x ≠ l).count k = if k = l then 0 else ls.count k := by
  by_cases e : k = l
  · subst e
    rw [List.count_eq_zero_of_not_mem (by simp), if_pos rfl]
  · rw [List.count_filter (by simpa using e), if_neg e]

/-- A load stands in the list of its new class alone after a class change (R34). -/
theorem count_moveClass {l k : LoadId} {old new c : Nat} (p : PerClass (List LoadId)) (ho : old ≤ 3) (hn : new ≤ 3) (hc : c ≤ 3)
    (own : ∀ d, d ≤ 3 → (p.get d).count l = if old = d then 1 else 0) :
    ((moveClass l old new p).get c).count k = if k = l then (if new = c then 1 else 0) else (p.get c).count k := by
  unfold moveClass
  by_cases same : old = new
  · subst same
    rw [if_pos rfl]
    split
    · subst k; exact own c hc
    · rfl
  rw [if_neg same]
  dsimp only
  rw [perClass_get_set _ hn hc, perClass_get_set _ ho hn, if_neg (Ne.symm same)]
  by_cases cn : c = new
  · subst cn
    rw [if_pos rfl, count_toTail, if_pos rfl]
  · rw [if_neg cn, if_neg (Ne.symm cn), perClass_get_set _ ho hc]
    by_cases co : c = old
    · subst co
      rw [if_pos rfl, count_remove]
    · rw [if_neg co]
      split
      · subst k; rw [own c hc, if_neg (Ne.symm co)]
      · rfl

/-- A load's record as SET_LOAD writes it (R34, R24). -/
def configuredLoad (ratedW cls : Nat) (leg : Leg) (d : Load) : Load :=
  { d with ratedW := ratedW, cls := cls, leg := leg
           verifyDue := d.verifyDue || decide (d.ratedW ≠ ratedW) || decide (d.leg ≠ leg) }

theorem configureLoad_eq (l : LoadId) (ratedW cls : Nat) (leg : Leg) (s : State) : configureLoad l ratedW cls leg s =
    { updLoad (configuredLoad ratedW cls leg) l s with
      par := { s.par with lists := moveClass l (load s l).cls cls s.par.lists } } := rfl

theorem load_configureLoad (l k : LoadId) (ratedW cls : Nat) (leg : Leg) (s : State) : load (configureLoad l ratedW cls leg s) k
    = if k = l then configuredLoad ratedW cls leg (load s l) else load s k := by
  rw [configureLoad_eq]
  exact load_updLoad (configuredLoad ratedW cls leg) l k s

theorem listLaw_configureLoad {l : LoadId} {ratedW cls : Nat} {leg : Leg} (hc : cls ≤ 3) (h : ListLaw s) :
    ListLaw (configureLoad l ratedW cls leg s) := by
  refine ⟨fun k => ?_, fun c hcc k => ?_, h.placement⟩
  · rw [load_configureLoad]
    split
    · exact hc
    · exact h.own_class k
  · rw [load_configureLoad]
    refine (count_moveClass s.par.lists (h.own_class l) hc hcc fun d hd => h.once d hd l).trans ?_
    split
    · rfl
    · exact h.once c hcc k

theorem keeps_configureLoad {l : LoadId} {ratedW cls : Nat} {leg : Leg} (hr : 100 ≤ ratedW ∧ ratedW ≤ 3000) (hc : cls ≤ 3)
    (s : State) : Keeps s (configureLoad l ratedW cls leg s) := by
  have same {α : Type} (view : Load → α) (keep : ∀ d, view (configuredLoad ratedW cls leg d) = view d) (k : LoadId) :
      view (load (configureLoad l ratedW cls leg s) k) = view (load s k) := by
    rw [load_configureLoad]
    split
    · subst k; exact keep _
    · rfl
  have dims : OnlyDims s (configureLoad l ratedW cls leg s) := by
    refine ⟨rfl, fun k on => ⟨?_, fun fire => ?_⟩, fun g m e => ⟨m, by cases g <;> exact e, rfl, fun v => ⟨v, fun fire => ?_, ?_⟩⟩⟩
    · rwa [same Load.on fun _ => rfl] at on
    iterate 2
      rw [mayFire_iff, same Load.mask fun _ => rfl]
      exact mayFire_iff.1 fire
    · rw [same Load.on fun _ => rfl]; exact id
  have aside : Aside s (configureLoad l ratedW cls leg s) :=
    aside_of_same rfl rfl rfl rfl (fun k => same Load.mask (fun _ => rfl) k) rfl rfl
  refine aside.kept ⟨dims.firing, dims.solo, fun _ _ h => ⟨fun k => ?_, fun k => ?_⟩, fun b => ?_, listLaw_configureLoad hc, fun h => ?_,
      storeLaw_congr rfl rfl⟩
  · rw [same Load.mask fun _ => rfl]; exact h.supply k
  · rw [same Load.mask fun _ => rfl, same Load.health fun _ => rfl]; exact h.health k
  · exact ⟨fun k => by rw [same Load.demand fun _ => rfl]; exact b.1.demands k, b.1.entry, b.1.loops, b.1.steam, b.1.boiler,
      b.1.run, b.1.runs⟩
  · refine ⟨h.budgets, h.reserves, h.slotHc, fun k => ?_, h.entries, h.ranges, h.loop⟩
    rw [load_configureLoad]
    split
    · exact hr
    · exact h.loads k

/-- A write of the rotation lists that keeps every list's loads. -/
theorem keeps_lists (s : State) (p : PerClass Policy) (ls : PerClass (List LoadId))
    (list : ListLaw s → ∀ c, c ≤ 3 → ∀ l, (ls.get c).count l = (s.par.lists.get c).count l) :
    Keeps s { s with par := { s.par with policies := p, lists := ls } } :=
  Aside.configured (s := s) (t := { s with par := { s.par with policies := p, lists := ls } })
    (aside_of_same rfl rfl rfl rfl (fun _ => rfl) rfl rfl)
    { bounded := fun b => ⟨b.1.demands, b.1.entry, b.1.loops, b.1.steam, b.1.boiler, b.1.run, b.1.runs⟩
      list := fun h => ⟨h.own_class, fun c hc l => (list h c hc l).trans (h.once c hc l), h.placement⟩
      config := fun ⟨a, b, c, d, e, f, g⟩ => ⟨a, b, c, d, e, f, g⟩
      store := storeLaw_congr rfl rfl }

theorem keeps_rotated {l : LoadId} (s : State) : Keeps s { s with par := { s.par with
    lists := s.par.lists.set (load s l).cls (toTail l (s.par.lists.get (load s l).cls)) } } := by
  refine keeps_lists s s.par.policies _ fun h c hc k => ?_
  rw [perClass_get_set _ (h.own_class l) hc]
  split
  · rename_i e
    rw [count_toTail, e]
    split
    · subst k; rw [h.once _ (h.own_class l), if_pos rfl]
    · rfl
  · rfl

/-- A list of distinct loads of one class, as long as the class's list, holds each of the class once (R49). -/
theorem count_members {ls : List LoadId} {c : Nat} (h : ListLaw s) (hc : c ≤ 3) (own : ∀ l, l ∈ ls → (load s l).cls = c)
    (length : ls.length = (s.par.lists.get c).length) (once : ls.Nodup) (k : LoadId) :
    ls.count k = (s.par.lists.get c).count k := by
  have mem (l : LoadId) : l ∈ s.par.lists.get c ↔ (load s l).cls = c := by
    rw [← List.count_pos_iff, h.once c hc l]; split <;> simp_all
  have nodup : (s.par.lists.get c).Nodup := List.nodup_iff_count_le_one.2 fun l => h.count_le_one hc l
  have sub : ls ⊆ s.par.lists.get c := fun l hl => (mem l).2 (own l hl)
  have perm : ls.Perm (s.par.lists.get c) := (List.subperm_of_subset once sub).perm_of_length_le (le_of_eq length.symm)
  exact perm.count_eq k

/-! ## SET_SUPPLY, SET_PLACEMENT, SET_MODE_ENTRY, SET_LOOP -/

theorem inRange_iff {lo hi x : Nat} : inRange lo hi x = true ↔ lo ≤ x ∧ x ≤ hi := by simp [inRange]

theorem keeps_supply {p : Supply} (budgets : 1000 ≤ p.budgetA ∧ p.budgetA ≤ 7400 ∧ 1000 ≤ p.budgetB ∧ p.budgetB ≤ 7400)
    (reserves : p.reserveA ≤ 500 ∧ p.reserveB ≤ 500) (slotHc : 20 ≤ p.slotHc ∧ p.slotHc ≤ 250) (s : State) :
    Keeps s { s with par := { s.par with supply := p } } :=
  Aside.configured (s := s) (t := { s with par := { s.par with supply := p } })
    (aside_of_same rfl rfl rfl rfl (fun _ => rfl) rfl rfl)
    { bounded := fun b => ⟨b.1.demands, b.1.entry, b.1.loops, b.1.steam, b.1.boiler, b.1.run, b.1.runs⟩
      list := fun ⟨a, b, c⟩ => ⟨a, b, c⟩
      config := fun h => ⟨budgets, reserves, slotHc, h.loads, h.entries, h.ranges, h.loop⟩
      store := storeLaw_congr rfl rfl }

theorem keeps_connectionChanged (c : Connection) (s : State) : Keeps s (connectionChanged c s) := by
  cases c with
  | single => exact keeps_msu fun h => countsOk_congr (fun c => by cases c <;> rfl) (countsOk_empty (c := .ampsB) h)
  | dual => exact keeps_msu (countsOk_congr fun c => by cases c <;> rfl)

theorem supplyOk_iff {b : RawSupply} : supplyOk b = true ↔ (1000 ≤ b.budgetA.toNat ∧ b.budgetA.toNat ≤ 7400)
    ∧ (1000 ≤ b.budgetB.toNat ∧ b.budgetB.toNat ≤ 7400) ∧ b.reserveA.toNat ≤ 500 ∧ b.reserveB.toNat ≤ 500
    ∧ 20 ≤ b.slotHc.toNat ∧ b.slotHc.toNat ≤ 250 := by
  simp only [supplyOk, Bool.and_eq_true, inRange_iff, Nat.zero_le, true_and, and_assoc]

theorem keeps_configureSupply {b : RawSupply} (ok : supplyOk b = true) (c : Connection) (s : State) :
    Keeps s (configureSupply (supplyOf c b) s) := by
  obtain ⟨budgetA, budgetB, reserveA, reserveB, slotHc⟩ := supplyOk_iff.1 ok
  have stored := keeps_supply (p := supplyOf c b) ⟨budgetA.1, budgetA.2, budgetB⟩ ⟨reserveA, reserveB⟩ slotHc s
  exact keeps_ite ((stored.trans (keeps_foldl (fun u l => keeps_setVerify l u) allLoads _)).trans (keeps_connectionChanged _ _))
    stored

theorem keeps_placement {order : List Nat} (perm : order.Perm (List.range 16)) (s : State) :
    Keeps s { s with par := { s.par with placement := order } } :=
  Aside.configured (s := s) (t := { s with par := { s.par with placement := order } })
    (aside_of_same rfl rfl rfl rfl (fun _ => rfl) rfl rfl)
    { bounded := fun b => ⟨b.1.demands, b.1.entry, b.1.loops, b.1.steam, b.1.boiler, b.1.run, b.1.runs⟩
      list := fun h => ⟨h.own_class, h.once, perm⟩
      config := fun ⟨a, b, c, d, e, f, g⟩ => ⟨a, b, c, d, e, f, g⟩
      store := storeLaw_congr rfl rfl }

/-- Sixteen distinct slot numbers are all of them (R47). -/
theorem perm_range_of_nodup {order : List Nat} (length : order.length = 16) (range : ∀ n, n ∈ order → n ≤ 15)
    (once : order.Nodup) : order.Perm (List.range 16) :=
  (List.subperm_of_subset once fun n hn => List.mem_range.2 (by have := range n hn; omega)).perm_of_length_le (by simp [length])

/-- What the configuration law asks of one heating mode entry (R62). -/
def EntryOk (e : ModeEntry) : Prop :=
  (e.range.isSome = e.tempLoop ∧ WeightsOk e) ∧ ∀ r, e.range = some r → 300 ≤ r.1 ∧ r.1 ≤ r.2 ∧ r.2 ≤ 2500

/-- The range that a body gives is legal (R63). -/
def rangeOk (b : RawEntry) : Prop := 300 ≤ b.min.toInt ∧ b.min.toInt ≤ b.max.toInt ∧ b.max.toInt ≤ 2500

/-- When a body gives an entry, and which (R63). -/
theorem entryOf_eq_some {b : RawEntry} {e : ModeEntry} : entryOf b = some e ↔ ∃ fan t h, fanOf b.fan = some fan
    ∧ flagOf b.tempLoop = some t ∧ flagOf b.humLoop = some h
    ∧ (b.top.toNat ≤ 100 ∧ b.bottom.toNat ≤ 100 ∧ b.ring.toNat ≤ 100 ∧ b.grill.toNat ≤ 100 ∧ b.boiler.toNat ≤ 100)
    ∧ (t = true → rangeOk b)
    ∧ e = { top := b.top.toNat, bottom := b.bottom.toNat, ring := b.ring.toNat, grill := b.grill.toNat
            boiler := b.boiler.toNat, fan := fan, tempLoop := t, humLoop := h
            range := if t then some (b.min.toInt, b.max.toInt) else .none } := by
  unfold entryOf
  cases fanOf b.fan with
  | none => simp
  | some fan =>
    cases flagOf b.tempLoop with
    | none => simp
    | some t =>
      cases flagOf b.humLoop with
      | none => simp
      | some h =>
        dsimp only
        split
        · rename_i ok
          have ok : (b.top.toNat ≤ 100 ∧ b.bottom.toNat ≤ 100 ∧ b.ring.toNat ≤ 100 ∧ b.grill.toNat ≤ 100 ∧ b.boiler.toNat ≤ 100)
              ∧ (t = true → rangeOk b) := by
            cases t <;> simp_all [rangeOk]
          constructor
          · intro he
            exact ⟨fan, t, h, rfl, rfl, rfl, ok.1, ok.2, (Option.some.inj he).symm⟩
          · rintro ⟨_, _, _, hf, ht, hh, -, -, rfl⟩
            cases hf; cases ht; cases hh
            rfl
        · rename_i bad
          refine ⟨fun h => absurd h (by simp), ?_⟩
          rintro ⟨_, _, _, -, ht, -, weights, range, -⟩
          cases ht
          refine absurd ?_ bad
          cases t <;> simp_all [rangeOk]

theorem entryOk_of_entryOf {b : RawEntry} {e : ModeEntry} (h : entryOf b = some e) : EntryOk e := by
  obtain ⟨fan, t, hum, -, -, -, weights, range, rfl⟩ := entryOf_eq_some.1 h
  refine ⟨⟨?_, weights⟩, fun r hr => ?_⟩
  · cases t <;> rfl
  · cases t with
    | false => exact absurd hr (by simp)
    | true => cases hr; exact range rfl

theorem keeps_modeEntry {e : ModeEntry} (ok : EntryOk e) {n : Nat} (hn : n < 8) (s : State) :
    Keeps s { s with clc := { s.clc with table := s.clc.table.set n e } } := by
  have get (i : Fin 8) : (s.clc.table.set n e)[i] = if n = i.val then e else s.clc.table[i] := by
    simp only [Fin.getElem_fin, Vector.getElem_set]
  refine Aside.configured (s := s) (t := { s with clc := { s.clc with table := s.clc.table.set n e } })
    (aside_of_same rfl rfl rfl rfl (fun _ => rfl) rfl rfl)
    { bounded := fun b => ⟨b.1.demands, b.1.entry, b.1.loops, b.1.steam, b.1.boiler, b.1.run, b.1.runs⟩
      list := listLaw_congr rfl rfl
      config := fun h => ⟨h.budgets, h.reserves, h.slotHc, h.loads, fun i => ?_, fun i r hr => ?_, h.loop⟩
      store := storeLaw_congr rfl rfl }
  · rw [get]
    split
    · exact ok.1
    · exact h.entries i
  · rw [get] at hr
    split at hr
    · exact ok.2 r hr
    · exact h.ranges i r hr

theorem keeps_loop {c : LoopParams} (ok : c.ks ≤ 50 ∧ 2 ≤ c.period ∧ c.period ≤ 16 ∧ c.band ≤ 20) (s : State) :
    Keeps s { s with clc := { s.clc with loop := c } } :=
  Aside.configured (s := s) (t := { s with clc := { s.clc with loop := c } })
    (aside_of_same rfl rfl rfl rfl (fun _ => rfl) rfl rfl)
    { bounded := fun b => ⟨b.1.demands, b.1.entry, b.1.loops, b.1.steam, b.1.boiler, b.1.run, b.1.runs⟩
      list := listLaw_congr rfl rfl
      config := fun h => ⟨h.budgets, h.reserves, h.slotHc, h.loads, h.entries, h.ranges, ok⟩
      store := storeLaw_congr rfl rfl }

/-! ## VERIFY and CLEAR_FAULT of a load (R30, R31) -/

/-- A load's record as it returns to use (R31). -/
def returnedLoad (d : Load) : Load :=
  { d with mask := d.mask.put .health false, health := .untested, measuredW := .none, verifyDue := true }

theorem setLoad_setLoad (s : State) (l : LoadId) (d e : Load) : setLoad (setLoad s l d) l e = setLoad s l e := by
  cases l <;> rfl

theorem clearLoadFault_eq (l : LoadId) (s : State) : clearLoadFault l s = updLoad returnedLoad l s := by
  unfold clearLoadFault removeReason updLoad
  rw [setLoad_setLoad, load_setLoad, if_pos rfl]
  rfl

theorem keeps_clearLoadFault (l : LoadId) (s : State) : Keeps s (clearLoadFault l s) := by
  rw [clearLoadFault_eq]
  have other {r : Reason} (ne : r ≠ .health) (k : LoadId) :
      (load (updLoad returnedLoad l s) k).mask.has r = (load s k).mask.has r := by
    rw [load_updLoad]
    split
    · subst k; exact (Mask.has_put _ .health r false).trans (if_neg ne)
    · rfl
  have dims : OnlyDims s (updLoad returnedLoad l s) := onlyDims_updLoad rfl (Mask.isEmpty_put_false .health)
  have aside : Aside s (updLoad returnedLoad l s) :=
    ⟨⟨rfl, rfl, rfl, rfl, rfl, other (r := .pause) (by decide), rfl⟩, rfl, ⟨rfl, rfl⟩,
      fun k => ⟨other (r := .door) (by decide) k, other (r := .faultMode) (by decide) k⟩, rfl⟩
  refine aside.kept ((stored_updLoad (f := returnedLoad) (fun _ => rfl) l s).table dims.firing dims.solo
    fun _ _ h => ⟨fun k => ?_, fun k => ?_⟩)
  · exact (other (r := .supply) (by decide) k).trans (h.supply k)
  · rw [load_updLoad]
    split
    · exact Mask.has_put_same _ .health false
    · exact h.health k

theorem keeps_verifyUnlessHealth (s : State) (l : LoadId) : Keeps s (verifyUnlessHealth s l) :=
  keeps_ite .refl (keeps_setVerify l s)

end Sys2Proof.Machine
end

section
/-!
SUPPORT. The program store under its editing requests: the step lists after an edit are a permutation of what they were with one
record more, one less, or none of a program's, and the pool follows them (R128).
-/

namespace Sys2Proof.Machine

variable {s t u v : State} {slot : Nat}

/-! ## Programs and records -/

/-- A user slot's number (R122). -/
def IsUserSlot (slot : Nat) : Prop := 2 ≤ slot ∧ slot ≤ 7

/-- The records that a slot's program references. -/
def stepsOf (p : Option Program) : List Nat := (p.map fun p => p.steps).getD []

theorem userProgram_putProgram (h : IsUserSlot slot) (p : Option Program) (k : Nat) (s : State) :
    userProgram (putProgram slot p s) k = if k = slot then p else userProgram s k := by
  obtain ⟨lo, hi⟩ := h
  unfold userProgram putProgram
  simp only [Vector.getElem?_setIfInBounds]
  by_cases e : k = slot
  · subst e
    rw [if_pos lo, if_pos rfl, if_pos (by omega), if_pos rfl]
    rfl
  · rw [if_neg e]
    by_cases hk : 2 ≤ k
    · rw [if_pos hk, if_pos hk, if_neg (by omega)]
    · rw [if_neg hk, if_neg hk]

/-- The records of the other slots lie before and after a slot's own. -/
theorem allRecords_putProgram (h : IsUserSlot slot) (s : State) : ∃ before after,
    allRecords s = before ++ stepsOf (userProgram s slot) ++ after
      ∧ ∀ p, allRecords (putProgram slot p s) = before ++ stepsOf p ++ after := by
  obtain ⟨lo, hi⟩ := h
  have bound : slot - 2 < s.pst.programs.toList.length := by simp; omega
  refine ⟨(s.pst.programs.toList.take (slot - 2)).flatMap stepsOf, (s.pst.programs.toList.drop (slot - 2 + 1)).flatMap stepsOf,
    ?_, fun p => ?_⟩
  · have get : s.pst.programs.toList[slot - 2] = userProgram s slot := by
      have b : slot - 2 < 6 := by omega
      simp [userProgram, lo, b]
    show s.pst.programs.toList.flatMap stepsOf = _
    conv_lhs => rw [← List.take_append_drop (slot - 2) s.pst.programs.toList, ← List.cons_getElem_drop_succ (h := bound), get]
    simp
  · show (s.pst.programs.setIfInBounds (slot - 2) p).toList.flatMap stepsOf = _
    rw [Vector.toList_setIfInBounds, List.set_eq_take_append_cons_drop, if_pos bound]
    simp

/-- A pool record after a write (R128). -/
theorem pool_putRecord (n m : Nat) (r : Option Step) (s : State) : (putRecord n r s).pst.pool[m]?
    = if n = m then if n < 96 then some r else none else s.pst.pool[m]? := Vector.getElem?_setIfInBounds

/-! ## The law in three parts -/

/-- The pool's part of the store law: records are free or referenced once, and hold steps of user kinds (R124, R128). -/
structure RecordsLaw (s : State) : Prop where
  once : (allRecords s).Nodup
  referenced : ∀ n, n ∈ allRecords s ↔ ∃ st, s.pst.pool[n]? = some (some st)
  kinds : ∀ (n : Nat) (st : Step), s.pst.pool[n]? = some (some st) → isUserStep st = true

/-- The store law of one program (R122, R123, R131). -/
structure ProgramOk (p : Program) : Prop where
  length : p.steps.length ≤ 20
  tagged : 1 ≤ p.tag
  ranges : ∀ (i : Fin 8) v, p.vars[i] = some v → v.ok
  keepWarm : ∀ k, p.keepWarm = some k → 600 ≤ k ∧ k ≤ 900

/-- The store law of a pending definition (R181). -/
def PendingOk (o : Option PendingDef) : Prop := ∀ d, o = some d →
  1 ≤ d.tag ∧ (∀ v, some v ∈ d.vars → v.ok) ∧ (∀ k, d.keepWarm = some k → 600 ≤ k ∧ k ≤ 900)

theorem StoreLaw.records (h : StoreLaw s) : RecordsLaw s := ⟨h.once, h.referenced, h.kinds⟩

theorem StoreLaw.program (h : StoreLaw s) {p : Program} (hp : userProgram s slot = some p) : ProgramOk p :=
  ⟨h.lengths slot p hp, h.tagged slot p hp, h.ranges slot p hp, fun k => h.keepWarm slot p k hp⟩

/-- One slot's program is replaced, and the pool written. -/
theorem storeLaw_put {p : Option Program} (programs : ∀ k, userProgram t k = if k = slot then p else userProgram s k) (records : RecordsLaw t)
    (pending : PendingOk t.lif.pendingDef) (ok : ∀ q, p = some q → ProgramOk q)
    (tags : ∀ q k r, p = some q → k ≠ slot → userProgram s k = some r → r.tag ≠ q.tag) (h : StoreLaw s) : StoreLaw t := by
  have program (k : Nat) (q : Program) (hq : userProgram t k = some q) : ProgramOk q := by
    rw [programs] at hq
    split at hq
    · exact ok q hq
    · exact h.program hq
  refine ⟨records.once, records.referenced, records.kinds, fun k q hq => (program k q hq).length, fun a b q r hq hr e => ?_,
    fun k q hq => (program k q hq).tagged, fun k q hq => (program k q hq).ranges, fun k q n hq => (program k q hq).keepWarm n,
    pending⟩
  rw [programs] at hq hr
  split at hq <;> split at hr
  · rename_i ha hb; exact ha.trans hb.symm
  · rename_i hb; exact absurd e.symm (tags q b r hq hb hr)
  · rename_i ha _; exact absurd e (tags r a q hr ha hq)
  · exact h.tags a b q r hq hr e

/-! ## The pool under an edit -/

theorem recordsLaw_same (records : allRecords t = allRecords s) (pool : t.pst.pool = s.pst.pool) (h : RecordsLaw s) :
    RecordsLaw t := by
  obtain ⟨once, referenced, kinds⟩ := h
  exact ⟨by rwa [records], by rwa [records, pool], by rwa [pool]⟩

/-- A free record is taken for a step (R133, R134). -/
theorem recordsLaw_take {n : Nat} {st : Step} (records : (allRecords t).Perm (n :: allRecords s))
    (pool : ∀ m, t.pst.pool[m]? = if n = m then some (some st) else s.pst.pool[m]?) (free : s.pst.pool[n]? = some none)
    (user : isUserStep st = true) (h : RecordsLaw s) : RecordsLaw t := by
  have fresh : n ∉ allRecords s := by
    rw [h.referenced, free]; rintro ⟨st, e⟩; simp at e
  refine ⟨records.nodup_iff.2 (List.nodup_cons.2 ⟨fresh, h.once⟩), fun m => ?_, fun m q hq => ?_⟩
  · rw [records.mem_iff, List.mem_cons, h.referenced, pool]
    by_cases e : n = m
    · subst e; simp
    · rw [if_neg e, or_iff_right (Ne.symm e)]
  · rw [pool] at hq
    split at hq
    · simp only [Option.some.injEq] at hq
      subst hq; exact user
    · exact h.kinds m q hq

/-- Records are freed with the references to them (R132, R136). -/
theorem recordsLaw_free {ns : List Nat} (records : (allRecords s).Perm (ns ++ allRecords t))
    (pool : ∀ m, m ∉ ns → t.pst.pool[m]? = s.pst.pool[m]?) (freed : ∀ m st, m ∈ ns → t.pst.pool[m]? ≠ some (some st))
    (h : RecordsLaw s) : RecordsLaw t := by
  obtain ⟨-, once, apart⟩ := List.nodup_append.1 (records.nodup_iff.1 h.once)
  have other (m : Nat) (st : Step) (hm : t.pst.pool[m]? = some (some st)) : m ∉ ns ∧ s.pst.pool[m]? = some (some st) := by
    have out : m ∉ ns := fun c => freed m st c hm
    exact ⟨out, pool m out ▸ hm⟩
  refine ⟨once, fun m => ⟨fun hm => ?_, ?_⟩, fun m st hm => h.kinds m st (other m st hm).2⟩
  · have out : m ∉ ns := fun c => apart m c m hm rfl
    obtain ⟨st, hst⟩ := (h.referenced m).1 (records.mem_iff.2 (List.mem_append.2 (.inr hm)))
    exact ⟨st, (pool m out).trans hst⟩
  · rintro ⟨st, hm⟩
    obtain ⟨out, hs⟩ := other m st hm
    exact (List.mem_append.1 (records.mem_iff.1 ((h.referenced m).2 ⟨st, hs⟩))).resolve_left out

/-- A record in use is rewritten (R135). -/
theorem recordsLaw_rewrite {n : Nat} {st : Step} (records : allRecords t = allRecords s) (used : n ∈ allRecords s)
    (pool : ∀ m, t.pst.pool[m]? = if n = m then some (some st) else s.pst.pool[m]?) (user : isUserStep st = true)
    (h : RecordsLaw s) : RecordsLaw t := by
  refine ⟨by rw [records]; exact h.once, fun m => ?_, fun m q hq => ?_⟩
  · rw [records, h.referenced, pool]
    by_cases e : n = m
    · subst e
      simp [(h.referenced n).1 used]
    · rw [if_neg e]
  · rw [pool] at hq
    split at hq
    · simp only [Option.some.injEq] at hq
      subst hq; exact user
    · exact h.kinds m q hq

theorem pool_lt {n : Nat} {r : Option Step} (h : s.pst.pool[n]? = some r) : n < 96 := (Vector.getElem?_eq_some_iff.1 h).1

theorem lowestFree_free {n : Nat} (h : lowestFree s = some n) : s.pst.pool[n]? = some none := by
  obtain ⟨bound, free, -⟩ := List.findIdx?_eq_some_iff_getElem.1 h
  rw [← Vector.getElem?_toList, List.getElem?_eq_getElem bound, Option.isNone_iff_eq_none.1 free]

/-! ## What the checks establish -/

theorem defined_of_noSuchSlot (h : noSuchSlot s slot = false) (user : ¬ slot < 2) :
    IsUserSlot slot ∧ ∃ p, userProgram s slot = some p := by
  simp only [noSuchSlot, slotDefined, Bool.or_eq_false_iff, decide_eq_false_iff_not, Bool.not_eq_false', Bool.or_eq_true,
    decide_eq_true_eq] at h
  obtain ⟨hi, low | some⟩ := h
  · exact absurd low user
  · exact ⟨⟨by omega, by omega⟩, Option.isSome_iff_exists.1 some⟩

theorem userStepOf_user {table : Vector ModeEntry 8} {r : RawStep} {st : Step} (h : userStepOf table r = some st) :
    isUserStep st = true := by
  unfold userStepOf at h
  split at h
  · obtain ⟨c, -, rfl⟩ := Option.map_eq_some_iff.1 h; rfl
  · split at h
    · cases h; rfl
    · exact absurd h (by simp)

theorem checkStep_ok {r : RawStep} {st : Step} (h : checkStep s slot r = .ok st) : ¬ slot < 2 ∧ isUserStep st = true := by
  unfold checkStep at h
  split at h
  · cases h
  · rename_i user
    refine ⟨user, ?_⟩
    split at h
    · cases h
    · split at h
      · cases h
      · split at h
        · rename_i step; cases h; exact userStepOf_user step
        · cases h

/-- What an accepted edit that takes a record has established (R133, R134). -/
structure Takes (s : State) (slot pos n : Nat) (st : Step) : Prop where
  defined : noSuchSlot s slot = false
  user : ¬ slot < 2
  kind : isUserStep st = true
  place : pos ≤ stepCount s slot
  room : stepCount s slot < 20
  free : lowestFree s = some n

theorem checkInsert_ok {pos n : Nat} {r : RawStep} {st : Step} (h : checkInsert slot pos r s = .ok (n, st)) :
    Takes s slot pos n st := by
  unfold checkInsert at h
  split at h
  · cases h
  · rename_i defined
    split at h
    · cases h
    · rename_i step checked
      dsimp only at h
      split_ifs at h with place use full
      split at h
      · cases h
      · rename_i free
        cases h
        have room : ¬ 20 ≤ stepCount s slot := full
        exact ⟨by simpa using defined, (checkStep_ok checked).1, (checkStep_ok checked).2, by omega, by omega, free⟩

theorem checkAppend_ok {pos n : Nat} {r : RawStep} {st : Step} (h : checkAppend slot r s = .ok (pos, n, st)) :
    Takes s slot pos n st := by
  unfold checkAppend at h
  split at h
  · cases h
  · rename_i defined
    split at h
    · cases h
    · rename_i step checked
      dsimp only at h
      split_ifs at h with use full
      split at h
      · cases h
      · rename_i free
        cases h
        have room : ¬ 20 ≤ stepCount s slot := full
        exact ⟨by simpa using defined, (checkStep_ok checked).1, (checkStep_ok checked).2, le_rfl, by omega, free⟩

theorem checkReplace_ok {pos n : Nat} {r : RawStep} {st : Step} (h : checkReplace slot pos r s = .ok (n, st)) :
    noSuchSlot s slot = false ∧ ¬ slot < 2 ∧ recordAt s slot pos = some n ∧ isUserStep st = true := by
  unfold checkReplace at h
  split at h
  · cases h
  · split at h
    · cases h
    · split at h
      · cases h
      · split at h
        · cases h
        · split at h
          · cases h
          · rename_i defined user _ _ found _ _ checked _
            cases h
            exact ⟨by simpa using defined, user, found, (checkStep_ok checked).2⟩

theorem checkDelete_ok {pos n : Nat} (h : checkDelete slot pos s = .ok n) :
    noSuchSlot s slot = false ∧ ¬ slot < 2 ∧ recordAt s slot pos = some n := by
  unfold checkDelete at h
  split at h
  · cases h
  · split at h
    · cases h
    · split at h
      · cases h
      · split at h
        · cases h
        · rename_i defined user _ _ found _
          cases h
          exact ⟨by simpa using defined, user, found⟩

theorem checkRetire_ok (h : checkRetire slot s = none) : noSuchSlot s slot = false ∧ ¬ slot < 2 := by
  unfold checkRetire at h
  split_ifs at h with defined user
  exact ⟨by simpa using defined, user⟩

theorem stepCount_user (user : ¬ slot < 2) {p : Program} (hp : userProgram s slot = some p) :
    stepCount s slot = p.steps.length := by
  unfold stepCount
  split
  · omega
  · omega
  · rw [hp]; rfl

theorem stepsOf_mem {p : Program} {n : Nat} (hs : IsUserSlot slot) (hp : userProgram s slot = some p) (hn : n ∈ p.steps) :
    n ∈ allRecords s := by
  obtain ⟨before, after, whole, -⟩ := allRecords_putProgram hs s
  rw [whole, hp]
  simp [stepsOf, hn]

/-! ## The edits -/

/-- A write of the program store and of the pending definition. -/
theorem keeps_store (s : State) (q : Pst) (d : Option PendingDef)
    (store : StoreLaw s → StoreLaw { s with pst := q, lif := { s.lif with pendingDef := d } }) :
    Keeps s { s with pst := q, lif := { s.lif with pendingDef := d } } :=
  Aside.configured (s := s) (t := { s with pst := q, lif := { s.lif with pendingDef := d } })
    (aside_of_same rfl rfl rfl rfl (fun _ => rfl) rfl rfl)
    { bounded := fun b => ⟨b.1.demands, b.1.entry, b.1.loops, b.1.steam, b.1.boiler, b.1.run, b.1.runs⟩
      list := listLaw_congr rfl rfl
      config := configLaw_congr rfl rfl rfl
      store := store }

/-- A write of the program store alone. -/
theorem keeps_pst (s : State) (q : Pst) (store : StoreLaw s → StoreLaw { s with pst := q }) : Keeps s { s with pst := q } :=
  keeps_store s q s.lif.pendingDef store

theorem keeps_handEdit (slot : Nat) (h : Keeps s u) : Keeps s (handEdit slot u) :=
  keeps_ite (h.boiler (boiler_evalLookAhead .refl)) h

/-- A program with other steps keeps its tag, its variables and its keep-warm value. -/
theorem programOk_steps {p : Program} (h : ProgramOk p) {steps : List Nat} (length : steps.length ≤ 20) :
    ProgramOk { p with steps := steps } := ⟨length, h.tagged, h.ranges, h.keepWarm⟩

theorem keeps_insertRef {pos n : Nat} {st : Step} (h : Takes s slot pos n st) : Keeps s (insertRef slot pos n st s) := by
  obtain ⟨defined, user, kind, place, room, free⟩ := h
  obtain ⟨hs, p, hp⟩ := defined_of_noSuchSlot defined user
  have free := lowestFree_free free
  have bound := pool_lt free
  rw [stepCount_user user hp] at place room
  unfold insertRef
  rw [hp]
  refine keeps_handEdit slot (keeps_pst s _ fun h => ?_)
  have programs (k : Nat) : userProgram (putRecord n (some st) (putProgram slot (some { p with
      steps := p.steps.insertIdx pos n }) s)) k
      = if k = slot then some { p with steps := p.steps.insertIdx pos n } else userProgram s k :=
    userProgram_putProgram hs _ k s
  obtain ⟨before, after, whole, edited⟩ := allRecords_putProgram hs s
  have perm : (allRecords (putRecord n (some st) (putProgram slot (some { p with steps := p.steps.insertIdx pos n }) s))).Perm
      (n :: allRecords s) := by
    rw [show allRecords (putRecord n (some st) (putProgram slot (some { p with steps := p.steps.insertIdx pos n }) s))
      = _ from edited (some { p with steps := p.steps.insertIdx pos n }), whole, hp]
    have one : (p.steps.insertIdx pos n).Perm (n :: p.steps) := List.perm_insertIdx n p.steps place
    exact (((one.append_left before).trans List.perm_middle).append_right after)
  refine storeLaw_put programs (recordsLaw_take perm (fun m => ?_) free kind h.records) h.part0 (fun q hq => ?_)
    (fun q k r hq ne hr => ?_) h
  · refine (pool_putRecord n m (some st) _).trans ?_
    rw [if_pos bound]
    rfl
  · cases hq
    exact programOk_steps (h.program hp) (by rw [List.length_insertIdx_of_le_length place]; omega)
  · cases hq
    exact fun e => ne (h.tags k slot r p hr hp e)

theorem recordAt_spec {pos n : Nat} {p : Program} (hp : userProgram s slot = some p) (h : recordAt s slot pos = some n) :
    ∃ b : pos < p.steps.length, p.steps[pos] = n := by
  rw [recordAt, hp] at h
  exact List.getElem?_eq_some_iff.1 h

theorem keeps_deleteAt {pos n : Nat} (defined : noSuchSlot s slot = false) (user : ¬ slot < 2)
    (found : recordAt s slot pos = some n) : Keeps s (deleteAt slot pos n s) := by
  obtain ⟨hs, p, hp⟩ := defined_of_noSuchSlot defined user
  obtain ⟨bound, rfl⟩ := recordAt_spec hp found
  unfold deleteAt
  rw [hp]
  refine keeps_handEdit slot (keeps_pst s _ fun h => ?_)
  obtain ⟨before, after, whole, edited⟩ := allRecords_putProgram hs s
  have perm : (allRecords s).Perm ([p.steps[pos]]
      ++ allRecords (putRecord p.steps[pos] none (putProgram slot (some { p with steps := p.steps.eraseIdx pos }) s))) := by
    rw [show allRecords (putRecord p.steps[pos] none (putProgram slot (some { p with steps := p.steps.eraseIdx pos }) s))
      = _ from edited (some { p with steps := p.steps.eraseIdx pos }), whole, hp]
    have one : p.steps.Perm (p.steps[pos] :: p.steps.eraseIdx pos) := (List.getElem_cons_eraseIdx_perm bound).symm
    exact (((one.append_left before).trans List.perm_middle).append_right after)
  refine storeLaw_put (userProgram_putProgram hs _ · s)
    (recordsLaw_free perm (fun m hm => ?_) (fun m st hm => ?_) h.records) h.part0 (fun q hq => ?_)
    (fun q k r hq ne hr => ?_) h
  · exact (pool_putRecord _ m none _).trans (if_neg (by simpa [eq_comm] using hm))
  · refine ne_of_eq_of_ne ((pool_putRecord _ m none _).trans (if_pos (by simpa [eq_comm] using hm))) ?_
    split <;> simp
  · cases hq
    exact programOk_steps (h.program hp) ((List.length_eraseIdx_le ..).trans (h.program hp).length)
  · cases hq
    exact fun e => ne (h.tags k slot r p hr hp e)

theorem keeps_replaceAt {pos n : Nat} {st : Step} (defined : noSuchSlot s slot = false) (user : ¬ slot < 2)
    (found : recordAt s slot pos = some n) (kind : isUserStep st = true) : Keeps s (replaceAt slot n st s) := by
  obtain ⟨hs, p, hp⟩ := defined_of_noSuchSlot defined user
  obtain ⟨bound, rfl⟩ := recordAt_spec hp found
  refine keeps_handEdit slot (keeps_pst s _ fun h => ?_)
  have used : p.steps[pos] ∈ allRecords s := stepsOf_mem hs hp (List.getElem_mem bound)
  obtain ⟨old, held⟩ := (h.referenced _).1 used
  have records : RecordsLaw (putRecord p.steps[pos] (some st) s) := by
    refine recordsLaw_rewrite (s := s) (n := p.steps[pos]) (st := st) rfl used (fun m => ?_) kind h.records
    rw [pool_putRecord]
    split
    · rw [if_pos (pool_lt held)]
    · rfl
  exact ⟨records.once, records.referenced, records.kinds, h.lengths, h.tags, h.tagged, h.ranges, h.keepWarm, h.part0⟩

/-- The records of a list are freed (R132). -/
theorem pool_freed (ns : List Nat) (m : Nat) (s : State) :
    (m ∉ ns → (ns.foldl (fun s n => putRecord n none s) s).pst.pool[m]? = s.pst.pool[m]?)
      ∧ ∀ st, m ∈ ns → (ns.foldl (fun s n => putRecord n none s) s).pst.pool[m]? ≠ some (some st) := by
  induction ns generalizing s with
  | nil => exact ⟨fun _ => rfl, fun _ h => absurd h (by simp)⟩
  | cons n ns ih =>
    obtain ⟨out, freed⟩ := ih (putRecord n none s)
    refine ⟨fun h => ?_, fun st h => ?_⟩
    · rw [List.mem_cons, not_or] at h
      exact (out h.2).trans (by rw [pool_putRecord, if_neg (Ne.symm h.1)])
    · by_cases later : m ∈ ns
      · exact freed st later
      · have e : m = n := (List.mem_cons.1 h).resolve_right later
        subst e
        rw [List.foldl_cons, out later, pool_putRecord, if_pos rfl]
        split <;> simp

/-- A state with other pool records. -/
theorem foldl_putRecord_eq (ns : List Nat) (s : State) : ∃ pool, ns.foldl (fun s n => putRecord n none s) s
    = { s with pst := { s.pst with pool := pool } } := by
  induction ns generalizing s with
  | nil => exact ⟨_, rfl⟩
  | cons n ns ih =>
    obtain ⟨pool, e⟩ := ih (putRecord n none s)
    exact ⟨pool, e⟩

theorem keeps_retire (defined : noSuchSlot s slot = false) (user : ¬ slot < 2) : Keeps s (retire slot s) := by
  obtain ⟨hs, p, hp⟩ := defined_of_noSuchSlot defined user
  unfold retire
  rw [hp]
  dsimp only
  have freed (m : Nat) := pool_freed p.steps m s
  obtain ⟨pool, e⟩ := foldl_putRecord_eq p.steps s
  simp only [e] at freed ⊢
  refine keeps_pst s _ fun h => ?_
  obtain ⟨before, after, whole, edited⟩ := allRecords_putProgram hs s
  have perm : (allRecords s).Perm (p.steps ++ allRecords (putProgram slot none s)) := by
    rw [edited none, whole, hp]
    simp only [stepsOf, Option.map_some, Option.getD_some, Option.map_none, Option.getD_none, List.append_nil, ← List.append_assoc]
    exact List.perm_append_comm.append_right after
  exact storeLaw_put (userProgram_putProgram hs none · s)
    (recordsLaw_free perm (fun m => (freed m).1) (fun m st => (freed m).2 st) h.records) h.part0 (fun q hq => by cases hq)
    (fun q k r hq => by cases hq) h

/-! ## DEFINE_PROGRAM and SET_VARIABLE (R131, R137, R181) -/

theorem variableOf_ok {w : RawVar} {v : Variable} (h : variableOf w = some (some v)) : v.ok := by
  unfold variableOf at h
  split at h
  · cases h
  split at h
  · split at h
    · rename_i range
      cases h
      exact ⟨range.1, range.2, Nat.le_of_lt_succ w.max.isLt⟩
    · cases h
  · cases h

theorem variablesOf_ok {w : RawVars} {vs : List (Option Variable)} (h : variablesOf w = some vs) {v : Variable}
    (hv : some v ∈ vs) : v.ok := by
  unfold variablesOf at h
  split at h
  · rename_i h0 h1 h2 h3
    cases h
    simp only [List.mem_cons, List.not_mem_nil, or_false] at hv
    obtain rfl | rfl | rfl | rfl := hv
    · exact variableOf_ok h0
    · exact variableOf_ok h1
    · exact variableOf_ok h2
    · exact variableOf_ok h3
  · cases h

theorem checkPart0_ok {part : Nat} {tag keep : Word} {vars : RawVars} {d : PendingDef}
    (h : checkPart0 slot part tag keep vars = .ok d) : PendingOk (some d) := by
  unfold checkPart0 at h
  split at h
  · cases h
  split at h
  · cases h
  split at h
  · rename_i k vs warm entries
    split_ifs at h with bad
    cases h
    intro e he
    cases he
    refine ⟨Nat.pos_of_ne_zero fun zero => bad (.inr zero), fun v hv => variablesOf_ok entries hv, fun k hk => ?_⟩
    unfold keepWarmOf at warm
    split_ifs at warm with zero range
    · cases warm; cases hk
    · cases warm; cases hk; exact range
  · cases h

theorem checkPart1_ok {part : Nat} {vars : RawVars} {d : PendingDef} {all : Vector (Option Variable) 8}
    (h : checkPart1 slot part vars s = .ok (d, all)) : IsUserSlot slot ∧ s.lif.pendingDef = some d ∧ d.slot = slot
      ∧ tagTaken s slot d.tag = false ∧ ∃ hi, variablesOf vars = some hi ∧ all = eightVars d.vars hi := by
  unfold checkPart1 at h
  split at h
  · cases h
  split at h
  · cases h
  rename_i high low
  split at h
  · cases h
  rename_i hi entries
  split at h
  · cases h
  split at h
  · cases h
  rename_i e pending
  split at h
  · cases h
  rename_i other
  dsimp only at h
  split at h
  · cases h
  rename_i taken
  split at h
  · cases h
  cases h
  exact ⟨⟨by omega, by omega⟩, pending, by simpa using other, by simpa using taken, hi, entries, rfl⟩

theorem tagTaken_other {tag k : Nat} {q : Program} (free : tagTaken s slot tag = false) (ne : k ≠ slot)
    (hq : userProgram s k = some q) : q.tag ≠ tag := by
  have user : k ∈ [2, 3, 4, 5, 6, 7] := by
    unfold userProgram at hq
    split_ifs at hq with lo
    have bound : k - 2 < 6 := by
      by_contra out
      rw [Vector.getElem?_eq_none (by omega)] at hq
      exact absurd hq (by simp)
    obtain rfl | rfl | rfl | rfl | rfl | rfl : k = 2 ∨ k = 3 ∨ k = 4 ∨ k = 5 ∨ k = 6 ∨ k = 7 := by omega
    all_goals decide
  have no := List.any_eq_false.1 free k user
  simpa [ne, hq] using no

theorem eightVars_ok {a b : List (Option Variable)} (ha : ∀ v, some v ∈ a → v.ok) (hb : ∀ v, some v ∈ b → v.ok) (i : Fin 8)
    (v : Variable) (h : (eightVars a b)[i] = some v) : v.ok := by
  have h : ((a ++ b)[i.val]?).join = some v := by simpa [eightVars] using h
  obtain mem := List.mem_of_getElem? (Option.join_eq_some_iff.1 h)
  exact (List.mem_append.1 mem).elim (ha v) (hb v)

theorem keeps_define0 {d : PendingDef} (ok : PendingOk (some d)) (s : State) :
    Keeps s { s with lif := { s.lif with pendingDef := some d } } :=
  keeps_store s s.pst (some d) fun h => ⟨h.once, h.referenced, h.kinds, h.lengths, h.tags, h.tagged, h.ranges, h.keepWarm, ok⟩

theorem keeps_define {part : Nat} {vars : RawVars} {d : PendingDef} {all : Vector (Option Variable) 8}
    (h : checkPart1 slot part vars s = .ok (d, all)) : Keeps s (define d all s) := by
  obtain ⟨hs, pending, rfl, free, hi, entries, rfl⟩ := checkPart1_ok h
  refine keeps_store s _ none fun h => ?_
  obtain ⟨tagged, low, warm⟩ := h.part0 d pending
  obtain ⟨before, after, whole, edited⟩ := allRecords_putProgram hs s
  have records : allRecords (define d (eightVars d.vars hi) s) = allRecords s :=
    (edited (some _)).trans whole.symm
  refine storeLaw_put (userProgram_putProgram hs _ · s) (recordsLaw_same records rfl h.records) (fun _ e => by cases e)
    (fun q hq => ?_) (fun q k r hq ne hr => ?_) h
  · cases hq
    refine ⟨?_, tagged, eightVars_ok low fun v hv => variablesOf_ok entries hv, warm⟩
    cases hp : userProgram s d.slot with
    | none => exact Nat.zero_le _
    | some p => exact (h.program hp).length
  · cases hq
    exact tagTaken_other free ne hr

theorem checkVariable_ok {var : Nat} {p : Program} {i : Fin 8} {v : Variable} (h : checkVariable slot var s = .ok (p, i, v)) :
    noSuchSlot s slot = false ∧ ¬ slot < 2 ∧ userProgram s slot = some p ∧ p.vars[i] = some v := by
  unfold checkVariable at h
  split_ifs at h with defined user bound
  split at h
  · cases h
  · rename_i q program
    split at h
    · cases h
    · rename_i w present
      cases h
      exact ⟨by simpa using defined, user, program, present⟩

theorem clampedValue_ok {v : Variable} (h : v.ok) (value : Nat) : ({ v with value := clampedValue v value } : Variable).ok := by
  obtain ⟨low, high, top⟩ := h
  have hi := clamp_le (lo := v.min) (hi := v.max) (by omega) value
  have lo := le_clamp (lo := v.min) (hi := v.max) (by omega) value
  refine ⟨?_, ?_, top⟩
  · show v.min ≤ clampedValue v value; unfold clampedValue; omega
  · show clampedValue v value ≤ v.max; unfold clampedValue; omega

theorem keeps_storeVariable {var value : Nat} {p : Program} {i : Fin 8} {v : Variable}
    (h : checkVariable slot var s = .ok (p, i, v)) : Keeps s (storeVariable slot p i v value s) := by
  obtain ⟨defined, user, program, present⟩ := checkVariable_ok h
  obtain ⟨hs, -⟩ := defined_of_noSuchSlot defined user
  have stored : Keeps s (putProgram slot (some { p with
      vars := p.vars.set i (some { v with value := clampedValue v value }) }) s) := by
    refine keeps_pst s _ fun h => ?_
    obtain ⟨before, after, whole, edited⟩ := allRecords_putProgram hs s
    have records : allRecords (putProgram slot (some { p with
        vars := p.vars.set i (some { v with value := clampedValue v value }) }) s) = allRecords s := by
      rw [edited, whole, program]; rfl
    have ok := h.program program
    refine storeLaw_put (userProgram_putProgram hs _ · s) (recordsLaw_same records rfl h.records) h.part0
      (fun q hq => ?_) (fun q k r hq ne hr => ?_) h
    · cases hq
      refine ⟨ok.length, ok.tagged, fun j w hw => ?_, ok.keepWarm⟩
      simp only [Fin.getElem_fin, Vector.getElem_set] at hw
      split at hw
      · cases hw; exact clampedValue_ok (ok.ranges i v present) value
      · exact ok.ranges j w hw
    · cases hq
      exact fun e => ne (h.tags k slot r p hr program e)
  exact keeps_ite (stored.acts (acts_recompute .refl i)) stored

end Sys2Proof.Machine
end

section
/-!
SUPPORT. Every request, every frame and every event keeps the laws: one lemma per request of Table 10.4, the link's own commands,
and the step.
-/

namespace Sys2Proof.Machine

variable {s t u v : State}

/-! ## Requests -/

theorem keeps_setLoad (b : Byte) (w : Word) (c g : Byte) (s : State) : Keeps s (answerSetLoad b w c g s).state := by
  unfold answerSetLoad
  split
  · exact .refl
  · split
    · exact .refl
    · split
      · rename_i ok
        rw [Bool.and_eq_true, inRange_iff, decide_eq_true_eq] at ok
        exact keeps_configureLoad ok.1 ok.2 s
      · exact .refl

theorem keeps_setSupply (b : RawSupply) (s : State) : Keeps s (answerSetSupply b s).state := by
  unfold answerSetSupply
  split
  · exact .refl
  · split
    · exact keeps_configureSupply ‹_› _ s
    · exact .refl

theorem keeps_setPlacement {slots : List Byte} (length : slots.length = 16) (s : State) :
    Keeps s (answerSetPlacement slots s).state := by
  unfold answerSetPlacement
  dsimp only
  split
  · exact .refl
  · rename_i range
    split
    · rename_i once
      refine keeps_placement (perm_range_of_nodup (by rw [List.length_map, length]) (fun n hn => ?_) once) s
      have low : ∀ b ∈ slots, b.toNat ≤ 15 := by simpa using range
      obtain ⟨b, hb, rfl⟩ := List.mem_map.1 hn
      exact low b hb
    · exact .refl

theorem keeps_setRotation (cls policy : Byte) (ms : Option (List Byte)) (s : State) :
    Keeps s (answerSetRotation cls policy ms s).state := by
  have policies (p : Policy) : Keeps s { s with par := { s.par with policies := s.par.policies.set cls.toNat p } } :=
    keeps_lists s _ s.par.lists fun _ _ _ _ => rfl
  unfold answerSetRotation
  dsimp only
  split
  · exact .refl
  rename_i low
  split
  · exact .refl
  rename_i p _
  split
  · exact policies p
  split
  · exact .refl
  rename_i ls _
  split
  · exact .refl
  rename_i ok
  split
  · rename_i once
    rw [Bool.or_eq_true, not_or, Bool.not_eq_true, List.any_eq_false, decide_eq_true_eq, not_not] at ok
    refine keeps_lists s (s.par.policies.set cls.toNat p) _ fun h c hc l => ?_
    rw [perClass_get_set _ (by omega) hc]
    split
    · rename_i e
      subst e
      exact count_members h hc (fun l hl => by simpa using ok.1 l hl) ok.2 once l
    · rfl
  · exact .refl

theorem keeps_setModeEntry (b : RawEntry) (s : State) : Keeps s (answerSetModeEntry b s).state := by
  unfold answerSetModeEntry
  split
  · rename_i low
    split
    · exact .refl
    · exact keeps_modeEntry (entryOk_of_entryOf ‹_›) low s
  · exact .refl

theorem keeps_setLoop (kp ki ks period band : Byte) (s : State) : Keeps s (answerSetLoop kp ki ks period band s).state := by
  unfold answerSetLoop
  split
  · rename_i ok
    rw [Bool.and_eq_true, Bool.and_eq_true, inRange_iff, decide_eq_true_eq, decide_eq_true_eq] at ok
    exact keeps_loop ⟨ok.1.1, ok.1.2.1, ok.1.2.2, ok.2⟩ s
  · exact .refl

theorem keeps_setWater (b : RawWater) (s : State) : Keeps s (answerSetWater b s).state := by
  unfold answerSetWater
  split
  · exact (keeps_sca s _).boiler (boiler_deriveAndHand .refl)
  · exact .refl

theorem keeps_restoreScale (mg h : Nat) (due : Bool) (s : State) : Keeps s (restoreScale mg h due s) := by
  have derived : Keeps s (deriveStage { s with sca := { s.sca with
      scaleMg := mg, rinseDue := due, hardness := min 1000 h, rinseSoaked := false, restored := true } }) :=
    (keeps_sca s _).boiler (boiler_deriveStage .refl)
  exact keeps_ite (derived.boiler (boiler_judgeBoiler (boiler_judgeDegraded .refl))) derived

theorem keeps_setScale (mg : Word) (due : Byte) (h : Word) (s : State) : Keeps s (answerSetScale mg due h s).state := by
  unfold answerSetScale
  split
  · exact .refl
  · exact keeps_restoreScale _ _ _ s

theorem keeps_answerDefine0 (slot part : Byte) (tag keep : Word) (vars : RawVars) (s : State) :
    Keeps s (answerDefine0 slot part tag keep vars s).state := by
  unfold answerDefine0
  split
  · exact .refl
  · exact keeps_define0 (checkPart0_ok ‹_›) s

theorem keeps_answerDefine1 (slot part : Byte) (vars : RawVars) (s : State) :
    Keeps s (answerDefine1 slot part vars s).state := by
  unfold answerDefine1
  split
  · exact .refl
  · exact keeps_define ‹_›

theorem keeps_answerRetire (slot : Byte) (s : State) : Keeps s (answerRetire slot s).state := by
  unfold answerRetire
  split
  · exact .refl
  · exact keeps_retire (checkRetire_ok ‹_›).1 (checkRetire_ok ‹_›).2

theorem keeps_answerAppend (slot : Byte) (r : RawStep) (s : State) : Keeps s (answerAppend slot r s).state := by
  unfold answerAppend
  split
  · exact .refl
  · exact keeps_insertRef (checkAppend_ok ‹_›)

theorem keeps_answerInsert (slot pos : Byte) (r : RawStep) (s : State) : Keeps s (answerInsert slot pos r s).state := by
  unfold answerInsert
  split
  · exact .refl
  · exact keeps_insertRef (checkInsert_ok ‹_›)

theorem keeps_answerReplace (slot pos : Byte) (r : RawStep) (s : State) : Keeps s (answerReplace slot pos r s).state := by
  unfold answerReplace
  split
  · exact .refl
  · rename_i checked
    obtain ⟨defined, user, found, kind⟩ := checkReplace_ok checked
    exact keeps_replaceAt defined user found kind

theorem keeps_answerDelete (slot pos : Byte) (s : State) : Keeps s (answerDelete slot pos s).state := by
  unfold answerDelete
  split
  · exact .refl
  · rename_i checked
    obtain ⟨defined, user, found⟩ := checkDelete_ok checked
    exact keeps_deleteAt defined user found

theorem keeps_answerSetVariable (slot var : Byte) (value : Word) (s : State) :
    Keeps s (answerSetVariable slot var value s).state := by
  unfold answerSetVariable
  split
  · exact .refl
  · exact keeps_storeVariable ‹_›

theorem keeps_answerStart (slot : Byte) (standby : ovenMode s = .standby) : Keeps s (answerStart slot s).state := by
  unfold answerStart
  dsimp only
  split
  · exact .refl
  split
  · exact .refl
  split
  · exact .refl
  · exact keeps_beginRun _ standby

theorem acts_answerPause (s : State) : StepActs s (answerPause s).state := by
  unfold answerPause
  split
  · exact acts_addPause .refl (by decide)
  · exact .refl

theorem acts_answerResume (s : State) : StepActs s (answerResume s).state := by
  unfold answerResume
  split
  · exact acts_settleRun (acts_dropPause (acts_dropPause .refl _) _)
  · exact .refl

theorem acts_answerConfirm (s : State) : StepActs s (answerConfirm s).state := by
  unfold answerConfirm
  split
  · rename_i waits
    have current := hasCurrent_iff.2 (.inr waits)
    split
    · exact acts_endStep .refl _ current
    · exact acts_proceed .refl current
    · exact .refl
  · exact .refl

theorem maySkip_current (h : maySkip s = true) : hasCurrent s = true := by
  simp only [maySkip, Bool.or_eq_true, Bool.and_eq_true, beq_iff_eq] at h
  exact hasCurrent_iff.2 (h.imp_right And.left)

theorem acts_answerSkip (s : State) : StepActs s (answerSkip s).state := by
  unfold answerSkip
  split
  · exact .refl
  · split
    · rename_i skip
      exact acts_endStep (acts_record (u := s) .refl { s.run with marks := { s.run.marks with skipped := true } }) _
        (maySkip_current skip)
    · exact .refl

theorem acts_markClamp (h : StepActs s u) (clamped : Bool) : StepActs s (markClamp clamped u) := acts_record h _

theorem acts_answerAdjust (q : Byte) (v : Word) (s : State) : StepActs s (answerAdjust q v s).state := by
  have latched (l : Latched) (current : hasCurrent s = true) : StepActs s { s with run := { s.run with latched := l } } :=
    acts_latched .refl _ current
  have current {b : Bool} (h : (hasCurrent s && b) = true) : hasCurrent s = true := (Bool.and_eq_true _ _ ▸ h).1
  unfold answerAdjust
  split
  · exact .refl
  split
  · unfold adjustTemp
    split
    · exact acts_changeSetpoint (acts_markClamp (latched _ (current ‹_›)) _) _
    · exact .refl
  split
  · unfold adjustHumidity
    split
    · exact acts_changeHumSet (acts_markClamp (latched _ (current ‹_›)) _) _
    · exact .refl
  split
  · unfold adjustDuration
    split
    · rename_i h
      rw [Bool.and_assoc] at h
      exact acts_markClamp (latched _ (current h)) _
    · exact .refl
  · exact .refl

theorem acts_answerEndHold (s : State) : StepActs s (answerEndHold s).state := by
  unfold answerEndHold
  split
  · rename_i holding
    exact acts_enterEnding .refl _ (by rw [holding]; decide)
  · exact .refl

theorem acts_answerAbort (s : State) : StepActs s (answerAbort s).state := by
  unfold answerAbort
  split
  iterate 3
    rename_i state
    exact acts_enterEnding .refl _ (by rw [state]; decide)
  all_goals exact .refl

theorem keeps_answerRotateLowest (b : Byte) (s : State) : Keeps s (answerRotateLowest b s).state := by
  unfold answerRotateLowest
  split
  · exact .refl
  · exact keeps_rotated s

theorem keeps_answerVerify (b : Byte) (s : State) : Keeps s (answerVerify b s).state := by
  unfold answerVerify
  split
  · exact keeps_foldl keeps_verifyUnlessHealth allLoads s
  · split
    · exact .refl
    · split
      · exact .refl
      · exact keeps_setVerify _ s

theorem boiler_clearBoilerFault (h : BoilerMoves s u) : BoilerMoves s (clearBoilerFault u) := boiler_enterBoiler h _

theorem keeps_answerClearFault (target b : Byte) (s : State) : Keeps s (answerClearFault target b s).state := by
  unfold answerClearFault
  split
  · unfold clearFaultOven
    split
    · exact .refl
    · exact keeps_clearOvenFault s
  split
  · unfold clearFaultBoiler
    split
    · exact Keeps.refl.boiler (boiler_clearBoilerFault .refl)
    · exact .refl
  split
  · unfold clearFaultLoad
    split
    · exact .refl
    · split
      · exact keeps_clearLoadFault _ s
      · exact .refl
  · exact .refl

theorem keeps_answerForce (b action : Byte) (s : State) : Keeps s (answerForce b action s).state := by
  unfold answerForce
  split
  · exact .refl
  · split
    · exact .refl
    · split
      · exact .refl
      · exact keeps_writeForcing _ _ s

theorem keeps_answerPattern (b : Byte) (s : State) : Keeps s (answerPattern b s).state := by
  unfold answerPattern
  split
  · exact .refl
  · exact keeps_startPattern _ s

theorem keeps_initLink (s : State) : Keeps s (initLink s) :=
  (keeps_notices s {}).trans (keeps_store { s with lif := { s.lif with notices := {} } } s.pst none fun h =>
    ⟨h.once, h.referenced, h.kinds, h.lengths, h.tags, h.tagged, h.ranges, h.keepWarm, fun _ e => by cases e⟩)

theorem keeps_initAll (s : State) : Keeps s (initAll s) := by
  rw [initAll_eq]
  exact (((keeps_initInner s).trans (keeps_initService _)).trans (keeps_initArbiter _)).trans (keeps_initLink _)

theorem keeps_answerClearNotices (kinds : Word) (s : State) : Keeps s (answerClearNotices kinds s).state := by
  unfold answerClearNotices
  split
  · exact .refl
  · exact keeps_notices s _

theorem readLoad_state (b : Byte) (s : State) : (answerReadLoad b s).state = s := by
  unfold answerReadLoad; split <;> rfl

theorem readProgram_state (slot : Byte) (s : State) : (answerReadProgram slot s).state = s := by
  unfold answerReadProgram; split <;> rfl

theorem readStep_state (slot pos : Byte) (s : State) : (answerReadStep slot pos s).state = s := by
  unfold answerReadStep
  split
  · rfl
  · split <;> rfl

/-- Every request keeps the laws in the modes that take it (Table 10.5). -/
theorem keeps_perform (r : Request) (length : requestLengthOk r = true) (mode : validIn r (ovenMode s) = true) :
    Keeps s (perform r s).state := by
  have read {a : Answer} (h : a.state = s) : Keeps s a.state := by rw [h]; exact .refl
  cases r with
  | readStatus | readMeasurements | readFrame | readScale | readNotices => exact .refl
  | readLoad l => exact read (readLoad_state l s)
  | readProgram slot => exact read (readProgram_state slot s)
  | readStep slot pos => exact read (readStep_state slot pos s)
  | clearNotices kinds => exact keeps_answerClearNotices kinds s
  | setLoad l w c g => exact keeps_setLoad l w c g s
  | setSupply b => exact keeps_setSupply b s
  | setPlacement slots => exact keeps_setPlacement (by simpa [requestLengthOk] using length) s
  | setRotation c p ms => exact keeps_setRotation c p ms s
  | setModeEntry b => exact keeps_setModeEntry b s
  | setLoop kp ki ks period band => exact keeps_setLoop kp ki ks period band s
  | setWater b => exact keeps_setWater b s
  | setScale mg due h => exact keeps_setScale mg due h s
  | defineProgram0 slot part tag keep vars => exact keeps_answerDefine0 slot part tag keep vars s
  | defineProgram1 slot part vars => exact keeps_answerDefine1 slot part vars s
  | retireProgram slot => exact keeps_answerRetire slot s
  | appendStep slot r => exact keeps_answerAppend slot r s
  | insertStep slot pos r => exact keeps_answerInsert slot pos r s
  | replaceStep slot pos r => exact keeps_answerReplace slot pos r s
  | deleteStep slot pos => exact keeps_answerDelete slot pos s
  | setVariable slot var v => exact keeps_answerSetVariable slot var v s
  | start slot =>
    refine keeps_answerStart slot ?_
    cases m : ovenMode s <;> simp [validIn, groupOfRequest, m] at mode ⊢
  | pause => exact (acts_answerPause s).kept
  | resume => exact (acts_answerResume s).kept
  | confirm => exact (acts_answerConfirm s).kept
  | skip => exact (acts_answerSkip s).kept
  | adjust q v => exact (acts_answerAdjust q v s).kept
  | endHold => exact (acts_answerEndHold s).kept
  | abort => exact (acts_answerAbort s).kept
  | rotateLowest l => exact keeps_answerRotateLowest l s
  | verify l => exact keeps_answerVerify l s
  | clearFault target l => exact keeps_answerClearFault target l s
  | force l a => exact keeps_answerForce l a s
  | pattern p => exact keeps_answerPattern p s
  | init => exact keeps_initAll s

theorem keeps_handle (r : Request) (s : State) : Keeps s (handle r s).state := by
  unfold handle
  split
  · exact .refl
  · rename_i length
    split
    · exact keeps_perform r (by simpa using length) ‹_›
    · exact .refl

/-! ## Frames (R177, R178, R185) -/

/-- A write of the link interface that keeps the pending definition. -/
theorem core_lif (s : State) (f : Lif) (pending : f.pendingDef = s.lif.pendingDef := by rfl) : Core s { s with lif := f } where
  table := (stored_of_same (s := s) (t := { s with lif := f }) (fun _ => rfl) rfl (by rw [pending]) id).table
    (firingLaw_congr rfl rfl) (soloLaw_congr rfl rfl) fun _ _ => maskLaw_congr rfl rfl
  pause := pauseLaw_congr rfl rfl
  door := doorLaw_congr rfl rfl rfl rfl
  run := runLaw_congr rfl rfl rfl

/-- A silent link is heard again (R185). -/
def heardAgain (s : State) : State :=
  if s.lif.silent then settleRun (dropPause .link { s with lif := { s.lif with silent := false } }) else s

theorem validFrame_eq (s : State) : validFrame s =
    { heardAgain s with lif := { (heardAgain s).lif with silence := ovenMode (heardAgain s) == .running } } := rfl

theorem acts_heardAgain (s : State) : StepActs { s with lif := { s.lif with silent := false } }
    (settleRun (dropPause .link { s with lif := { s.lif with silent := false } })) := acts_settleRun (acts_dropPause .refl _)

theorem core_heardAgain (s : State) : Core s (heardAgain s) := by
  unfold heardAgain
  split
  · exact (core_lif s { s.lif with silent := false }).trans (acts_heardAgain s).kept.toCore
  · exact (Keeps.refl (s := s)).toCore

theorem heardAgain_silent (s : State) : (heardAgain s).lif.silent = false := by
  unfold heardAgain
  split
  · exact (acts_heardAgain s).goesOn.heard rfl
  · simpa using ‹¬ s.lif.silent = true›

theorem core_validFrame (s : State) : Core s (validFrame s) := by
  rw [validFrame_eq]
  exact (core_heardAgain s).trans (core_lif (heardAgain s) { (heardAgain s).lif with silence := _ })

/-- A valid frame leaves the silence timer running exactly while the mode is RUNNING (R185). -/
theorem silenceFor_validFrame (s : State) : SilenceFor (ovenMode (validFrame s)) (validFrame s) := by
  rw [validFrame_eq]
  have silent := heardAgain_silent s
  generalize heardAgain s = w at silent ⊢
  refine ⟨?_, fun h => absurd h (by simp [silent])⟩
  show (ovenMode w == .running) = (ovenMode w == .running && !w.lif.silent)
  rw [silent, Bool.not_false, Bool.and_true]

/-- The laws that a command keeps. -/
structure Kept (s t : State) : Prop extends Core s t where
  link : LinkLaw s → LinkLaw t

/-- The link law of the receive side (R175 to R177). -/
def FramingOk (f : Lif) : Prop :=
  (f.response.isSome = (f.rx == .answering)) ∧ (f.gap = (f.rx == .length || f.rx == .body || f.rx == .check))
    ∧ (f.rx = .length → f.buffer = []) ∧ (f.rx = .body → f.buffer.length < f.length ∧ f.length ≤ 49)
    ∧ (f.rx = .check → f.buffer.length = f.length ∧ 1 ≤ f.length ∧ f.length ≤ 49)

theorem linkLaw_iff : LinkLaw s ↔ FramingOk s.lif ∧ SilenceFor (ovenMode s) s :=
  ⟨fun ⟨a, b, c, d, e, f, g⟩ => ⟨⟨a, b, c, d, e⟩, f, g⟩, fun ⟨⟨a, b, c, d, e⟩, f, g⟩ => ⟨a, b, c, d, e, f, g⟩⟩

theorem framingOk_congr {f g : Lif} (h : linkFraming g = linkFraming f) (ok : FramingOk f) : FramingOk g := by
  simp only [linkFraming, Prod.mk.injEq] at h
  obtain ⟨rx, length, buffer, gap, response⟩ := h
  rw [FramingOk, rx, length, buffer, gap, response]
  exact ok

theorem Keeps.all (h : Keeps s t) : Kept s t where
  toCore := h.toCore
  link law := by
    obtain ⟨framing, silence⟩ := linkLaw_iff.1 law
    exact linkLaw_iff.2 ⟨framingOk_congr h.framing framing, h.silence silence⟩

theorem Kept.refl : Kept s s := Keeps.refl.all

/-- A write of the receive side and the response. -/
theorem kept_framing (s : State) (f : Lif) (ok : FramingOk s.lif → FramingOk f) (pending : f.pendingDef = s.lif.pendingDef)
    (timers : (f.silence, f.silent) = (s.lif.silence, s.lif.silent)) : Kept s { s with lif := f } where
  toCore := core_lif s f pending
  link law := by
    obtain ⟨framing, silence⟩ := linkLaw_iff.1 law
    exact linkLaw_iff.2 ⟨ok framing, silenceFor_congr (s := s) (t := { s with lif := f }) timers silence⟩

theorem core_respond (code : Byte) (a : Answer) : Core a.state (respond code a) := core_lif a.state _

theorem framingOk_respond (code : Byte) (a : Answer) : FramingOk (respond code a).lif := by
  simp [FramingOk, respond]

/-- A response begins: the part holds the turn, and every law of the answered state stands (R177). -/
theorem kept_respond {a : Answer} (code : Byte) (core : Core s a.state)
    (silence : SilenceFor (ovenMode s) s → SilenceFor (ovenMode a.state) a.state) : Kept s (respond code a) where
  toCore := core.trans (core_respond code a)
  link law := linkLaw_iff.2 ⟨framingOk_respond code a, silence (linkLaw_iff.1 law).2⟩

theorem kept_loadBuffer_answer {f : State → Answer} (code c : Byte) (body : List Byte)
    (keeps : ∀ u, Keeps u (f u).state) (s : State) : Kept s (respond code (f (validFrame (loadBuffer c body s)))) := by
  refine kept_respond code (((core_lif s _).trans (core_validFrame (loadBuffer c body s))).trans (keeps _).toCore) fun _ => ?_
  exact (keeps _).silence (silenceFor_validFrame _)

theorem kept_requestRow (r : Request) (s : State) : Kept s (requestRow r s) := by
  unfold requestRow
  split
  · exact .refl
  · exact kept_loadBuffer_answer (f := handle r) _ _ _ (keeps_handle r) s

theorem keeps_answerFrame (code : Byte) (body : List Byte) (s : State) : Keeps s (answerFrame code body s).state := by
  unfold answerFrame
  split
  · exact .refl
  · exact .refl
  · exact keeps_handle _ s

theorem kept_takeFrame (code : Byte) (body : List Byte) (check : Byte) (s : State) : Kept s (takeFrame code body check s) := by
  unfold takeFrame
  split
  · refine kept_respond code ((core_validFrame s).trans (keeps_answerFrame code body _).toCore) fun _ => ?_
    exact (keeps_answerFrame code body _).silence (silenceFor_validFrame s)
  · exact kept_respond code (Keeps.refl (s := s)).toCore id

theorem kept_frameRow (code : Byte) (body : List Byte) (check : Byte) (s : State) : Kept s (frameRow code body check s) := by
  unfold frameRow
  split
  · exact .refl
  unfold takeFrame
  split
  · exact kept_loadBuffer_answer (f := answerFrame code body) _ _ _ (keeps_answerFrame code body) s
  · refine kept_respond code (core_lif s _) fun silence => ?_
    exact silenceFor_congr (s := s) (t := loadBuffer code body s) rfl silence

/-! ## Bytes and timers of the link (R175 to R177, R185) -/

/-- No response is held but in ANSWERING (R177). -/
theorem FramingOk.unanswered {f : Lif} (ok : FramingOk f) (rx : f.rx ≠ .answering) : f.response = none := by
  have e : f.response.isSome = false := by rw [ok.1, beq_false_of_ne rx]
  simpa using e

theorem kept_linkByte (b : Byte) (s : State) : Kept s (linkByte b s) := by
  unfold linkByte
  cases rx : s.lif.rx with
  | hunt =>
    dsimp only
    split
    · refine kept_framing s _ (fun ok => ?_) rfl rfl
      simp [FramingOk, ok.unanswered (by simp [rx])]
    · exact .refl
  | length =>
    dsimp only
    split
    · rename_i range
      refine kept_framing s _ (fun ok => ?_) rfl rfl
      have empty : s.lif.buffer = [] := ok.2.2.1 rx
      have first : 0 < b.toNat := range.1
      simp [FramingOk, ok.unanswered (by simp [rx]), empty, first, range.2]
    · refine kept_framing s _ (fun ok => ?_) rfl rfl
      simp [FramingOk, ok.unanswered (by simp [rx])]
  | body =>
    dsimp only
    refine kept_framing s _ (fun ok => ?_) rfl rfl
    obtain ⟨room, top⟩ := ok.2.2.2.1 rx
    by_cases full : s.lif.length ≤ s.lif.buffer.length + 1
    · have last : s.lif.buffer.length + 1 = s.lif.length := by omega
      have first : 1 ≤ s.lif.length := by omega
      simp [FramingOk, ok.unanswered (by simp [rx]), last, first, top]
    · simp [FramingOk, ok.unanswered (by simp [rx]), full, top]
      omega
  | check => exact kept_takeFrame _ _ b s
  | answering => exact .refl

theorem kept_gapExpires (s : State) : Kept s (gapExpires s) := by
  unfold gapExpires
  split
  · rename_i gap
    refine kept_framing s _ (fun ok => ?_) rfl rfl
    have waits : s.lif.rx ≠ .answering := by
      intro rx
      have running := ok.2.1
      rw [gap, rx] at running
      exact absurd running (by decide)
    simp [FramingOk, ok.unanswered waits]
  · exact .refl

theorem kept_responseSent (s : State) : Kept s (responseSent s) := by
  unfold responseSent
  split
  · rename_i rx
    refine kept_framing s _ (fun ok => ?_) rfl rfl
    have gap : s.lif.gap = false := by rw [ok.2.1, rx]; rfl
    simp [FramingOk, gap]
  · exact .refl

theorem kept_linkSilent (s : State) : Kept s (linkSilent s) := by
  unfold linkSilent
  split
  · rename_i running
    have paused := keeps_addPause .link { s with lif := { s.lif with silence := false, silent := true } }
    refine ⟨(core_lif s _).trans paused.toCore, fun law => linkLaw_iff.2 ⟨framingOk_congr paused.framing (linkLaw_iff.1 law).1,
      paused.silence ⟨?_, fun _ => ?_⟩⟩⟩
    · exact (Bool.and_false _).symm
    · have silence := law.silence
      rw [running] at silence
      have mode : (ovenMode s == .running) = true := (Bool.and_eq_true _ _ ▸ silence.symm).1
      exact beq_iff_eq.1 mode
  · exact .refl

end Sys2Proof.Machine
end

section
/-!
SUPPORT. Every command keeps the laws, and the four invariants that are settled by it.
-/

namespace Sys2Proof.Machine

variable {s t u v : State}

/-! ## Release from reset (R188) -/

theorem allRecords_reset : allRecords State.reset = [] := by decide

theorem userProgram_reset (slot : Nat) : userProgram State.reset slot = none := by
  unfold userProgram
  split
  · show ((Vector.replicate 6 (none : Option Program))[slot - 2]?).join = none
    rw [Vector.getElem?_replicate]
    split <;> rfl
  · rfl

theorem pool_reset (n : Nat) (st : Step) : State.reset.pst.pool[n]? ≠ some (some st) := by
  show (Vector.replicate 96 (none : Option Step))[n]? ≠ some (some st)
  rw [Vector.getElem?_replicate]
  split <;> simp

theorem storeLaw_reset : StoreLaw State.reset where
  once := by rw [allRecords_reset]; exact List.nodup_nil
  referenced n := by
    rw [allRecords_reset]
    exact ⟨fun h => absurd h (by simp), fun ⟨st, h⟩ => absurd h (pool_reset n st)⟩
  kinds n st h := absurd h (pool_reset n st)
  lengths slot p h := by rw [userProgram_reset] at h; cases h
  tags a b p q h := by rw [userProgram_reset] at h; cases h
  tagged slot p h := by rw [userProgram_reset] at h; cases h
  ranges slot p h := by rw [userProgram_reset] at h; cases h
  keepWarm slot p k h := by rw [userProgram_reset] at h; cases h
  part0 d h := by have e : (none : Option PendingDef) = some d := h; cases e

theorem listLaw_reset : ListLaw State.reset where
  own_class l := by cases l <;> decide
  once c hc l := by
    obtain rfl | rfl | rfl | rfl : c = 0 ∨ c = 1 ∨ c = 2 ∨ c = 3 := by omega
    all_goals cases l <;> decide
  placement := by decide

theorem entryOk_reset (i : Fin 8) : ((State.reset.clc.table[i]).range.isSome = (State.reset.clc.table[i]).tempLoop
    ∧ WeightsOk (State.reset.clc.table[i]))
      ∧ (State.reset.clc.table[i]).range.all (fun r => decide (300 ≤ r.1 ∧ r.1 ≤ r.2 ∧ r.2 ≤ 2500)) = true := by
  unfold WeightsOk
  revert i
  decide

theorem configLaw_reset : ConfigLaw State.reset where
  budgets := by decide
  reserves := by decide
  slotHc := by decide
  loads l := by cases l <;> decide
  entries i := (entryOk_reset i).1
  ranges i r h := by
    have all := (entryOk_reset i).2
    rw [h] at all
    simpa using all
  loop := by decide

theorem rangeLaw_reset : RangeLaw State.reset where
  demands l := by cases l <;> decide
  entry := by decide
  loops := by decide
  steam := by decide
  boiler := ⟨by decide, by decide, fun n h => (by have e : (none : Option Nat) = some n := h; cases e),
    fun n h => (by have e : (none : Option Nat) = some n := h; cases e)⟩
  run := by decide
  runs c := by cases c <;> decide

theorem firingLaw_reset : FiringLaw State.reset :=
  have ok : GridOk State.reset.par.frame.inForce State.reset.par.frame.grid := gridOk_empty _
  ⟨fun l on => absurd on (by cases l <;> decide), fun n g => (ok n).capacity g, fun n g => (ok n).solo g⟩

theorem soloLaw_reset : SoloLaw State.reset := by
  have none (g : Leg) : legMeasurement State.reset g = none := by cases g <;> rfl
  exact ⟨fun l on => absurd on (by cases l <;> decide), fun g m e => by simp [none] at e, fun g m e => by simp [none] at e,
    fun g m e => by simp [none] at e⟩

theorem pauseLaw_reset : PauseLaw State.reset := ⟨fun l => by cases l <;> rfl, fun r h => absurd h (by cases r <;> decide)⟩

theorem maskLaw_reset : MaskLaw State.reset := ⟨fun l => by cases l <;> rfl, fun l => by cases l <;> rfl⟩

/-- Every law holds at release from reset, so the command keeps it (R188). -/
theorem kept_released (strap : Bool) (door : DoorLevel) (queue : List Instr) (s : State) : Kept s (released strap door queue) where
  table :=
    { firing := fun _ => firingLaw_congr (s := State.reset) rfl rfl firingLaw_reset
      solo := fun _ => soloLaw_congr (s := State.reset) rfl rfl soloLaw_reset
      mask := fun _ _ _ => maskLaw_congr (s := State.reset) rfl rfl maskLaw_reset
      bounded := fun _ => rangeLaw_congr (s := State.reset) rfl rfl rfl rfl rfl rangeLaw_reset
      list := fun _ => listLaw_congr (s := State.reset) rfl rfl listLaw_reset
      config := fun _ => configLaw_congr (s := State.reset) rfl rfl rfl configLaw_reset
      store := fun _ => storeLaw_congr (s := State.reset) rfl rfl storeLaw_reset }
  pause _ := pauseLaw_congr (s := State.reset) rfl rfl pauseLaw_reset
  door _ := ⟨fun l => by cases l <;> rfl, fun opened => (nomatch opened), by cases strap <;> rfl, fun l => by cases l <;> rfl, rfl, rfl⟩
  run _ := ⟨rfl, rfl, fun h => absurd rfl h, fun _ => rfl, fun h => absurd rfl h, Nat.zero_le _,
    ⟨⟨fun h => (nomatch h), fun h => (nomatch h)⟩, fun _ => rfl⟩, rfl, fun _ => rfl⟩
  link _ := ⟨rfl, rfl, fun h => (nomatch h), fun h => (nomatch h), fun h => (nomatch h), by cases strap <;> rfl, fun h => (nomatch h)⟩

/-! ## Every command (Table 1.5, 10.4) -/

theorem keeps_whenDue {f : State → State} (due : Bool) (h : ∀ u, Keeps u (f u)) (s : State) : Keeps s (whenDue due f s) :=
  keeps_ite (h s) .refl

theorem keeps_sgcTick (s : State) : Keeps s (sgcTick s) := (acts_sgcTick .refl).kept

theorem keeps_stepTick (s : State) : Keeps s (stepTick s) := (acts_stepTick .refl).kept

/-- Every command takes a state to a next one, and keeps the laws. -/
theorem exec_kept (i : Instr) (s : State) : ∃ t, exec i s = .next t ∧ Kept s t := by
  cases i with
  | resetRelease strap door => exact ⟨_, rfl, kept_released strap door _ s⟩
  | analogSample input raw => exact ⟨_, rfl, (keeps_analogSample input raw s).all⟩
  | probeSample contact raw => exact ⟨_, rfl, (keeps_probeSample contact raw s).all⟩
  | electrodeSample low high => exact ⟨_, rfl, (keeps_electrodeSample low high s).all⟩
  | mainsSample input => exact ⟨_, rfl, (keeps_mainsSample input s).all⟩
  | zeroCross z => exact ⟨_, rfl, (keeps_zeroCross z s).all⟩
  | slotEnd z | frameBoundary z | soloBaselineEnd z => exact ⟨_, rfl, (keeps_whenDue _ (keeps_zeroCross z) s).all⟩
  | supplyLoss => exact ⟨_, rfl, (keeps_supplyLost s).all⟩
  | doorSwitchChange level => exact ⟨_, rfl, (keeps_doorSwitch level s).all⟩
  | doorDebounceExpiry => exact ⟨_, rfl, (keeps_debounceExpires s).all⟩
  | loopUpdate => exact ⟨_, rfl, (keeps_loopExpires s).all⟩
  | sgcClockTick => exact ⟨_, rfl, (keeps_sgcTick s).all⟩
  | fillTimeout | refillTimeout | heatTimeout | drainComplete | soakDurationReached =>
    exact ⟨_, rfl, (keeps_whenDue _ keeps_sgcTick s).all⟩
  | stepTick => exact ⟨_, rfl, (keeps_stepTick s).all⟩
  | stepDurationExpiry | holdTimeout => exact ⟨_, rfl, (keeps_whenDue _ keeps_stepTick s).all⟩
  | linkByte b => exact ⟨_, rfl, kept_linkByte b s⟩
  | gapTimeout => exact ⟨_, rfl, kept_gapExpires s⟩
  | responseComplete => exact ⟨_, rfl, kept_responseSent s⟩
  | linkSilence => exact ⟨_, rfl, kept_linkSilent s⟩
  | badCheckFrame code body check => exact ⟨_, rfl, kept_frameRow code body check s⟩
  | unknownRequest code body => exact ⟨_, rfl, kept_frameRow code body _ s⟩
  | _ => exact ⟨_, rfl, kept_requestRow _ s⟩

/-- The queue is no law's. -/
theorem kept_queue (s : State) (queue : List Instr) : Kept s { s with pending := queue } where
  table := (stored_of_same (s := s) (t := { s with pending := queue }) (fun _ => rfl) rfl rfl id).table
    (firingLaw_congr rfl rfl) (soloLaw_congr rfl rfl) fun _ _ => maskLaw_congr rfl rfl
  pause := pauseLaw_congr rfl rfl
  door := doorLaw_congr rfl rfl rfl rfl
  run := runLaw_congr rfl rfl rfl
  link := linkLaw_congr rfl rfl rfl rfl

theorem Kept.trans (h : Kept s u) (k : Kept u v) : Kept s v := ⟨h.toCore.trans k.toCore, fun law => k.link (h.link law)⟩

/-- Every step keeps the laws. -/
theorem step_kept (h : step s = .next t) : Kept s t := by
  unfold step at h
  split at h
  · cases h; exact .refl
  · rename_i i rest _
    obtain ⟨w, e, kept⟩ := exec_kept i { s with pending := rest }
    rw [e] at h
    cases h
    exact (kept_queue s rest).trans kept

/-! ## The invariants -/

/-- The loads that are on are placed in the slot in progress, so a leg's charges lie within its sum (R40, R53). -/
theorem FiringLaw.charges_le (h : FiringLaw s) (g : Leg) : (allLoads.map fun l =>
    if (load s l).on = true ∧ s.par.frame.inForce.leg.get l = g then s.par.frame.inForce.charge.get l else 0).sum
      ≤ s.par.frame.inForce.cap g := by
  refine (List.sum_le_sum fun l _ => ?_).trans (h.capacity s.par.frame.slot g)
  by_cases charged : (load s l).on = true ∧ s.par.frame.inForce.leg.get l = g
  · have placed : placedOn s.par.frame.inForce (slotOf s.par.frame.grid s.par.frame.slot) g l = true := by
      simp [placedOn, (h.on_allowed l charged.1).2.2.2, charged.2]
    rw [if_pos charged, if_pos placed]
  · rw [if_neg charged]
    exact Nat.zero_le _

/-- Settles O5: each command keeps both laws, and the schedule bounds each leg's charges. -/
theorem firingLawIsKept : Obligations.FiringLawIsKept := by
  intro s t h
  have kept := step_kept h
  exact ⟨fun law => ⟨kept.table.firing law, (kept.table.firing law).charges_le⟩, kept.table.solo⟩

/-- Settles O6, by the same commands. -/
theorem maskAndDoorLawsAreKept : Obligations.MaskAndDoorLawsAreKept := by
  intro s t h
  have kept := step_kept h
  exact ⟨kept.pause, kept.table.mask, kept.door⟩

/-- Settles O8, by the same commands. -/
theorem storedValuesStayLegal : Obligations.StoredValuesStayLegal := by
  intro s t h
  have kept := step_kept h
  exact ⟨kept.table.list, kept.table.config, kept.table.store⟩

/-- Settles O9, by the same commands. -/
theorem linkRunAndRangeLawsAreKept : Obligations.LinkRunAndRangeLawsAreKept := by
  intro s t h
  have kept := step_kept h
  exact ⟨kept.link, kept.run, fun range config => kept.table.bounded ⟨range, config⟩⟩

end Sys2Proof.Machine
end

section
/-!
SUPPORT. How a request that the part hears is answered: the state in which it is performed, the refusals, and the acceptances.
-/

namespace Sys2Proof.Machine

variable {s t u v : State} {r : Request}

/-- The link record in which a heard request is performed (R175, R185). -/
def heardLif (r : Request) (s : State) : Lif :=
  { s.lif with rx := .check, length := (requestBody r).length + 1, buffer := requestCode r :: requestBody r, gap := true
               silence := ovenMode s == .running }

theorem heard_eq (h : Hears s) : heard r s = { s with lif := heardLif r s } := by
  have silent : (loadBuffer (requestCode r) (requestBody r) s).lif.silent ≠ true := by
    show s.lif.silent ≠ true
    rw [h.2]; decide
  rw [heard, validFrame_eq, heardAgain, if_neg silent]
  rfl

theorem requestRow_eq (h : Hears s) :
    requestRow r s = respond (requestCode r) (handle r { s with lif := heardLif r s }) := by
  rw [← heard_eq h]
  exact if_neg h.1

/-- A request that its length and its mode let through is performed (R178, R180). -/
theorem handle_perform (length : requestLengthOk r = true) (valid : validIn r (ovenMode s) = true) :
    handle r { s with lif := heardLif r s } = perform r { s with lif := heardLif r s } := by
  have pass : ¬ (!requestLengthOk r) = true := by simp [length]
  have mode : validIn r (ovenMode { s with lif := heardLif r s }) = true := valid
  rw [handle, if_neg pass, if_pos mode]

theorem row_performs (h : Hears s) (valid : validIn r (ovenMode s) = true) (length : requestLengthOk r = true := by rfl) :
    requestRow r s = respond (requestCode r) (perform r { s with lif := heardLif r s }) := by
  rw [requestRow_eq h, handle_perform length valid]

/-- A response is what the request's answer says, where the silence timer is right (R177, R185). -/
theorem answered_respond {a : Answer} (silence : SilenceFor (ovenMode a.state) a.state) (silent : a.state.lif.silent = false) :
    Answered r a.result a.body (respond (requestCode r) a) := by
  refine ⟨rfl, rfl, silent, ?_, rfl⟩
  have e := silence.1
  rw [silent] at e
  exact e.trans (Bool.and_true _)

theorem silenceFor_heard (h : Hears s) (r : Request) :
    SilenceFor (ovenMode { s with lif := heardLif r s }) { s with lif := heardLif r s } := by
  refine ⟨?_, fun silent => absurd silent (by show s.lif.silent ≠ true; rw [h.2]; decide)⟩
  show (ovenMode s == .running) = (ovenMode s == .running && !s.lif.silent)
  rw [h.2, Bool.not_false, Bool.and_true]

/-- A request whose answer leaves the oven mode and the silence timer alone. -/
theorem answered_still {a : Answer} (mode : ovenMode a.state = ovenMode s)
    (silence : (a.state.lif.silence, a.state.lif.silent) = ((ovenMode s == .running), false)) :
    Answered r a.result a.body (respond (requestCode r) a) := by
  simp only [Prod.mk.injEq] at silence
  exact answered_respond ⟨by rw [mode, silence.1, silence.2]; simp, fun e => by simp [silence.2] at e⟩ silence.2

/-- A response reaches the link alone: what the answer's state keeps of another state, it keeps. -/
theorem respond_block (code : Byte) (a : Answer) {b : Block} (other : b ≠ .lif) : sameBlock b a.state (respond code a) := by
  cases b <;> first | rfl | exact absurd rfl other

theorem heard_block {b : Block} (other : b ≠ .lif) : sameBlock b s { s with lif := heardLif r s } := by
  cases b <;> first | rfl | exact absurd rfl other

theorem sameBlock_trans {b : Block} (h : sameBlock b s u) (k : sameBlock b u v) : sameBlock b s v := by
  cases b <;> exact Eq.trans k h

theorem ChangesOnly.trans {bs : List Block} (h : ChangesOnly bs s u) (k : ChangesOnly bs u v) : ChangesOnly bs s v :=
  fun b hb => sameBlock_trans (h b hb) (k b hb)

theorem ChangesOnly.mono {bs cs : List Block} (h : ChangesOnly bs s t) (sub : ∀ b, b ∈ bs → b ∈ cs) : ChangesOnly cs s t :=
  fun b hb => h b fun c => hb (sub b c)

theorem changesOnly_respond (code : Byte) (a : Answer) : ChangesOnly [.lif] a.state (respond code a) :=
  fun _ hb => respond_block code a (by simpa using hb)

theorem changesOnly_heard (r : Request) (s : State) : ChangesOnly [.lif] s { s with lif := heardLif r s } :=
  fun _ hb => heard_block (by simpa using hb)

/-- What a performed request changes, with the link, the whole row changes. -/
theorem changesOnly_row (r : Request) {bs : List Block} {a : Answer} {code : Byte} (lif : Block.lif ∈ bs)
    (h : ChangesOnly bs { s with lif := heardLif r s } a.state) : ChangesOnly bs s (respond code a) := by
  have sub (b : Block) (hb : b ∈ [Block.lif]) : b ∈ bs := by
    rw [List.mem_singleton.1 hb]; exact lif
  exact (((changesOnly_heard r s).mono sub).trans h).trans ((changesOnly_respond code a).mono sub)

/-- A request refused by its owning block is answered so, and only the link changes (R177, R178). -/
theorem row_refuses {e : ResultCode} (h : Hears s) (valid : validIn r (ovenMode s) = true)
    (refused : perform r { s with lif := heardLif r s } = refuse e { s with lif := heardLif r s })
    (length : requestLengthOk r = true := by rfl) :
    Answered r e [] (requestRow r s) ∧ ChangesOnly [.lif] s (requestRow r s) ∧ SameNotices s (requestRow r s) := by
  rw [row_performs h valid length, refused]
  exact ⟨answered_still rfl (Prod.ext rfl h.2), changesOnly_row r (by simp) fun _ _ => by
    rename_i b _; cases b <;> rfl, ⟨rfl, rfl⟩⟩

/-! ## Bytes that name things (00, Names) -/

theorem loadOf_loadByte (l : LoadId) : loadOf (loadByte l) = some l := by cases l <;> rfl

theorem legOf_legByte (g : Leg) : legOf (legByte g) = some g := by cases g <;> rfl

theorem byte_ne {b c : Byte} {n : Nat} (h : n < b.toNat) (hc : c.toNat ≤ n := by decide) : b ≠ c := by
  rintro rfl
  omega

theorem loadOf_eq_none {b : Byte} : loadOf b = none ↔ 4 < b.toNat := by
  constructor
  · intro h
    by_contra low
    have cases : b = 0 ∨ b = 1 ∨ b = 2 ∨ b = 3 ∨ b = 4 := by
      have e : b.toNat = 0 ∨ b.toNat = 1 ∨ b.toNat = 2 ∨ b.toNat = 3 ∨ b.toNat = 4 := by omega
      obtain e | e | e | e | e := e
      · exact .inl (BitVec.eq_of_toNat_eq e)
      · exact .inr (.inl (BitVec.eq_of_toNat_eq e))
      · exact .inr (.inr (.inl (BitVec.eq_of_toNat_eq e)))
      · exact .inr (.inr (.inr (.inl (BitVec.eq_of_toNat_eq e))))
      · exact .inr (.inr (.inr (.inr (BitVec.eq_of_toNat_eq e))))
    obtain rfl | rfl | rfl | rfl | rfl := cases <;> exact absurd h (by decide)
  · intro high
    rw [loadOf, if_neg (byte_ne high), if_neg (byte_ne high), if_neg (byte_ne high), if_neg (byte_ne high),
      if_neg (byte_ne high)]

/-- A byte of at most two values. -/
theorem flag_none {α : Type} {b : Byte} {x y : α} :
    (if b = 0 then some x else if b = 1 then some y else none) = none ↔ 1 < b.toNat := by
  constructor
  · intro h
    split_ifs at h with zero one
    by_contra low
    have e : b.toNat = 0 ∨ b.toNat = 1 := by omega
    obtain e | e := e
    · exact zero (BitVec.eq_of_toNat_eq e)
    · exact one (BitVec.eq_of_toNat_eq e)
  · intro high
    rw [if_neg (byte_ne high), if_neg (byte_ne high)]

theorem legOf_eq_none {b : Byte} : legOf b = none ↔ 1 < b.toNat := flag_none

theorem connectionOf_eq_none {b : Byte} : connectionOf b = none ↔ 1 < b.toNat := flag_none

theorem policyOf_eq_none {b : Byte} : policyOf b = none ↔ 1 < b.toNat := flag_none

theorem flagOf_eq_none {b : Byte} : flagOf b = none ↔ 1 < b.toNat := flag_none

theorem fanOf_of_gt {b : Byte} (high : 2 < b.toNat) : fanOf b = none := by
  rw [fanOf, if_neg (byte_ne high), if_neg (byte_ne high), if_neg (byte_ne high)]

end Sys2Proof.Machine
end

section
/-!
CERTIFICATE. SET_LOAD, the refusals of the configuration requests, and VERIFY and CLEAR_FAULT.
-/

namespace Sys2Proof.Machine

variable {s t u v : State} {r : Request}

/-! ## SET_LOAD (R34) -/

theorem valid_configure (group : groupOfRequest r = .configure) (mode : ovenMode s = .standby ∨ ovenMode s = .service) :
    validIn r (ovenMode s) = true := by
  unfold validIn
  rw [group]
  obtain m | m := mode <;> rw [m]

theorem setLoad_accepts {l : LoadId} {w : Word} {c : Byte} {g : Leg} (lo : 100 ≤ w.toNat) (hi : w.toNat ≤ 3000)
    (cls : c.toNat ≤ 3) (s : State) :
    answerSetLoad (loadByte l) w c (legByte g) s = accept [] (configureLoad l w.toNat c.toNat g s) := by
  rw [answerSetLoad, loadOf_loadByte, legOf_legByte]
  exact if_pos (by rw [inRange_iff.2 ⟨lo, hi⟩, decide_eq_true cls]; rfl)

theorem ListLaw.not_mem_other (h : ListLaw s) {l : LoadId} {c : Nat} (hc : c ≤ 3) (ne : (load s l).cls ≠ c) :
    l ∉ s.par.lists.get c := by
  rw [← List.count_eq_zero, h.once c hc l, if_neg ne]

theorem toTail_of_not_mem {l : LoadId} {ls : List LoadId} (h : l ∉ ls) : toTail l ls = ls ++ [l] := by
  rw [toTail, List.filter_eq_self.2]
  intro k hk
  exact decide_eq_true fun e => h (e ▸ hk)

/-- Where a class change leaves each list (R34). -/
theorem get_moveClass {l : LoadId} {old new : Nat} (ho : old ≤ 3) (hn : new ≤ 3) (ne : old ≠ new)
    (p : PerClass (List LoadId)) {d : Nat} (hd : d ≤ 3) : (moveClass l old new p).get d
      = if d = new then toTail l (p.get new) else if d = old then (p.get old).filter (fun k => k ≠ l) else p.get d := by
  unfold moveClass
  rw [if_neg ne, perClass_get_set _ hn hd, perClass_get_set _ ho hn, if_neg (Ne.symm ne)]
  split
  · rfl
  · rw [perClass_get_set _ ho hd]

/-- Settles O20: the fields and the lists that `configureLoad` writes. -/
theorem setLoadConfiguresOneLoad : Obligations.SetLoadConfiguresOneLoad := by
  intro l w c leg s hears mode lo hi cls law
  refine ⟨_, rfl, ?_⟩
  show Answered _ _ _ (requestRow _ s) ∧ _
  rw [row_performs hears (valid_configure rfl mode), show perform (.setLoad (loadByte l) w c (legByte leg)) _
    = _ from setLoad_accepts lo hi cls _]
  refine ⟨answered_still rfl (Prod.ext rfl hears.2), changesOnly_row (.setLoad (loadByte l) w c (legByte leg)) (by simp) fun b hb => ?_, ⟨rfl, rfl⟩, ?_, fun k ne => ?_, rfl, rfl,
    fun same => ?_, fun ne => ⟨?_, ?_, fun d hd new old => ?_⟩⟩
  · cases b <;> first | rfl | exact absurd hb (by simp)
  · exact (load_configureLoad l l _ _ leg _).trans (if_pos rfl)
  · exact (load_configureLoad l k _ _ leg _).trans (if_neg ne)
  · exact if_pos same
  · refine (get_moveClass (law.own_class l) cls ne s.par.lists cls).trans ?_
    rw [if_pos rfl, toTail_of_not_mem (law.not_mem_other cls ne)]
  · refine (get_moveClass (law.own_class l) cls ne s.par.lists (law.own_class l)).trans ?_
    rw [if_neg ne, if_pos rfl]
  · refine (get_moveClass (law.own_class l) cls ne s.par.lists hd).trans ?_
    rw [if_neg new, if_neg old]

/-! ## Refusals of the configuration requests (R178) -/

theorem setLoad_noSuch {b : Byte} (high : 4 < b.toNat) (w : Word) (c g : Byte) (s : State) :
    answerSetLoad b w c g s = refuse .noSuch s := by
  rw [answerSetLoad, loadOf_eq_none.2 high]

theorem setLoad_range {b : Byte} {w : Word} {c g : Byte} (low : b.toNat ≤ 4)
    (bad : w.toNat < 100 ∨ 3000 < w.toNat ∨ 3 < c.toNat ∨ 1 < g.toNat) (s : State) :
    answerSetLoad b w c g s = refuse .range s := by
  unfold answerSetLoad
  split
  · rename_i none; have := loadOf_eq_none.1 none; omega
  · split
    · rfl
    · rename_i leg
      have known : ¬ 1 < g.toNat := fun high => by rw [legOf_eq_none.2 high] at leg; cases leg
      refine if_neg fun ok => ?_
      rw [Bool.and_eq_true, inRange_iff, decide_eq_true_eq] at ok
      omega

theorem setSupply_range {b : RawSupply} (bad : 1 < b.connection.toNat ∨ b.budgetA.toNat < 1000 ∨ 7400 < b.budgetA.toNat
    ∨ b.budgetB.toNat < 1000 ∨ 7400 < b.budgetB.toNat ∨ 500 < b.reserveA.toNat ∨ 500 < b.reserveB.toNat
    ∨ b.slotHc.toNat < 20 ∨ 250 < b.slotHc.toNat) (s : State) : answerSetSupply b s = refuse .range s := by
  unfold answerSetSupply
  split
  · rfl
  · rename_i connection
    have known : ¬ 1 < b.connection.toNat := fun high => by rw [connectionOf_eq_none.2 high] at connection; cases connection
    refine if_neg fun ok => ?_
    have := supplyOk_iff.1 ok
    omega

theorem setPlacement_range {slots : List Byte} (bad : ∃ b, b ∈ slots ∧ 15 < b.toNat) (s : State) :
    answerSetPlacement slots s = refuse .range s := by
  obtain ⟨b, mem, high⟩ := bad
  refine if_pos (List.any_eq_true.2 ⟨b.toNat, List.mem_map_of_mem mem, decide_eq_true high⟩)

theorem setPlacement_duplicate {slots : List Byte} (range : ∀ b, b ∈ slots → b.toNat ≤ 15) (twice : ¬ slots.Nodup) (s : State) :
    answerSetPlacement slots s = refuse .duplicate s := by
  have low : ¬ (slots.map BitVec.toNat).any (fun n => decide (15 < n)) = true := by simpa using range
  have same : ¬ (slots.map BitVec.toNat).Nodup := fun once =>
    twice ((List.nodup_map_iff fun _ _ => BitVec.eq_of_toNat_eq).1 once)
  exact (if_neg low).trans (if_neg same)

theorem setRotation_noSuch {c : Byte} (high : 3 < c.toNat) (p : Byte) (ms : Option (List Byte)) (s : State) :
    answerSetRotation c p ms s = refuse .noSuch s := if_pos high

theorem setRotation_policy {c p : Byte} (low : c.toNat ≤ 3) (bad : 1 < p.toNat) (ms : Option (List Byte)) (s : State) :
    answerSetRotation c p ms s = refuse .range s := by
  unfold answerSetRotation
  dsimp only
  rw [if_neg (by omega), policyOf_eq_none.2 bad]

theorem loadsOf_map_loadByte (ls : List LoadId) : loadsOf (ls.map loadByte) = some ls := by
  induction ls with
  | nil => rfl
  | cons l ls ih => rw [List.map_cons, loadsOf, loadOf_loadByte, ih]

theorem loadsOf_eq_none {bs : List Byte} (bad : ∃ b, b ∈ bs ∧ 4 < b.toNat) : loadsOf bs = none := by
  obtain ⟨b, mem, high⟩ := bad
  induction bs with
  | nil => exact absurd mem (by simp)
  | cons a bs ih =>
    obtain rfl | mem := List.mem_cons.1 mem
    · rw [loadsOf, loadOf_eq_none.2 high]
    · rw [loadsOf, ih mem]
      cases loadOf a <;> rfl

/-- SET_ROTATION with members, once the class and the policy are known (R49). -/
theorem setRotation_members {c p : Byte} {bs : List Byte} (low : c.toNat ≤ 3) (s : State) :
    answerSetRotation c p (some bs) s = refuse .range s ∨ ∃ q : Policy, ∃ ls, policyOf p = some q ∧ loadsOf bs = some ls
      ∧ answerSetRotation c p (some bs) s =
        if ls.any (fun l => decide ((load s l).cls ≠ c.toNat)) || decide (ls.length ≠ (s.par.lists.get c.toNat).length) then
          refuse .range s
        else if ls.Nodup then
          accept [] { s with par := { s.par with policies := s.par.policies.set c.toNat q, lists := s.par.lists.set c.toNat ls } }
        else refuse .duplicate s := by
  unfold answerSetRotation
  dsimp only
  rw [if_neg (by omega)]
  cases policyOf p with
  | none => exact .inl rfl
  | some q =>
    cases loadsOf bs with
    | none => exact .inl rfl
    | some ls => exact .inr ⟨q, ls, rfl, rfl, rfl⟩

theorem setRotation_unknown {c p : Byte} {bs : List Byte} (low : c.toNat ≤ 3) (bad : ∃ b, b ∈ bs ∧ 4 < b.toNat) (s : State) :
    answerSetRotation c p (some bs) s = refuse .range s := by
  obtain e | ⟨q, ls, -, loads, -⟩ := setRotation_members (p := p) (bs := bs) low s
  · exact e
  · rw [loadsOf_eq_none bad] at loads; cases loads

theorem setRotation_range {c p : Byte} {ls : List LoadId} (low : c.toNat ≤ 3) {s : State} (bad : 1 < p.toNat
    ∨ (∃ l, l ∈ ls ∧ (load s l).cls ≠ c.toNat) ∨ ls.length ≠ (s.par.lists.get c.toNat).length) :
    answerSetRotation c p (some (ls.map loadByte)) s = refuse .range s := by
  obtain e | ⟨q, ks, policy, loads, e⟩ := setRotation_members (p := p) (bs := ls.map loadByte) low s
  · exact e
  rw [loadsOf_map_loadByte] at loads
  cases loads
  obtain high | other | length := bad
  · rw [policyOf_eq_none.2 high] at policy; cases policy
  · rw [e, if_pos]
    obtain ⟨l, mem, ne⟩ := other
    rw [List.any_eq_true.2 ⟨l, mem, decide_eq_true ne⟩, Bool.true_or]
  · rw [e, if_pos]
    rw [decide_eq_true length, Bool.or_true]

theorem setRotation_duplicate {c p : Byte} {ls : List LoadId} (low : c.toNat ≤ 3) (policy : p.toNat ≤ 1) {s : State}
    (own : ∀ l, l ∈ ls → (load s l).cls = c.toNat) (length : ls.length = (s.par.lists.get c.toNat).length)
    (twice : ¬ ls.Nodup) : answerSetRotation c p (some (ls.map loadByte)) s = refuse .duplicate s := by
  obtain ⟨q, known⟩ : ∃ q, policyOf p = some q := by
    cases h : policyOf p with
    | none => have := policyOf_eq_none.1 h; omega
    | some q => exact ⟨q, rfl⟩
  unfold answerSetRotation
  dsimp only
  rw [if_neg (by omega), known, loadsOf_map_loadByte]
  dsimp only
  rw [if_neg, if_neg twice]
  rw [Bool.or_eq_true, not_or, Bool.not_eq_true, List.any_eq_false, decide_eq_true_eq, not_not]
  exact ⟨fun l mem => by simpa using own l mem, length⟩

theorem setModeEntry_noSuch {b : RawEntry} (high : 7 < b.entry.toNat) (s : State) :
    answerSetModeEntry b s = refuse .noSuch s := dif_neg (by omega)

theorem setModeEntry_range {b : RawEntry} (bad : 100 < b.top.toNat ∨ 100 < b.bottom.toNat
    ∨ 100 < b.ring.toNat ∨ 100 < b.grill.toNat ∨ 100 < b.boiler.toNat ∨ 2 < b.fan.toNat
    ∨ (b.tempLoop = 1 ∧ (b.min.toInt < 300 ∨ b.max.toInt < b.min.toInt ∨ 2500 < b.max.toInt)))
    (low : b.entry.toNat ≤ 7) (s : State) : answerSetModeEntry b s = refuse .range s := by
  have none : entryOf b = none := by
    cases h : entryOf b with
    | none => rfl
    | some e =>
      obtain ⟨fan, t, hum, hfan, ht, -, weights, range, -⟩ := entryOf_eq_some.1 h
      have known : ¬ 2 < b.fan.toNat := fun high => by rw [fanOf_of_gt high] at hfan; cases hfan
      obtain ⟨loop, out⟩ : b.tempLoop = 1 ∧ (b.min.toInt < 300 ∨ b.max.toInt < b.min.toInt ∨ 2500 < b.max.toInt) := by
        obtain b | b | b | b | b | b | loop := bad
        case inr.inr.inr.inr.inr.inr => exact loop
        all_goals omega
      rw [loop] at ht
      cases ht
      have := range rfl
      unfold rangeOk at this
      omega
  unfold answerSetModeEntry
  rw [dif_pos (by omega), none]

theorem setLoop_range {kp ki ks period band : Byte} (bad : 50 < ks.toNat ∨ period.toNat < 2 ∨ 16 < period.toNat ∨ 20 < band.toNat)
    (s : State) : answerSetLoop kp ki ks period band s = refuse .range s := by
  refine if_neg fun ok => ?_
  rw [Bool.and_eq_true, Bool.and_eq_true, inRange_iff, decide_eq_true_eq, decide_eq_true_eq] at ok
  omega

theorem setWater_range {b : RawWater} (bad : b.fillMl.toNat < 50 ∨ 400 < b.fillMl.toNat ∨ b.advise.toNat = 0
    ∨ b.derate.toNat ≤ b.advise.toNat ∨ b.lock.toNat ≤ b.derate.toNat ∨ 60000 < b.lock.toNat) (s : State) :
    answerSetWater b s = refuse .range s := by
  refine if_neg fun ok => ?_
  simp only [Bool.and_eq_true, inRange_iff, decide_eq_true_eq] at ok
  omega

theorem setScale_range {mg hard : Word} {due : Byte} (bad : 1 < due.toNat) (s : State) :
    answerSetScale mg due hard s = refuse .range s := by
  rw [answerSetScale, flagOf_eq_none.2 bad]

/-- Settles O24: each refusal is the first of its owning block's checks that fails. -/
theorem configurationRefusals : Obligations.ConfigurationRefusals := by
  intro s hears mode
  have refuses (r : Request) {e : ResultCode} (group : groupOfRequest r = .configure)
      (refused : perform r { s with lif := heardLif r s } = refuse e { s with lif := heardLif r s })
      (length : requestLengthOk r = true := by rfl) : Answered r e [] (requestRow r s) :=
    (row_refuses hears (valid_configure group mode) refused length).1
  refine ⟨fun l w c g => ⟨_, rfl, fun high => ?_, fun low bad => ?_⟩, fun b => ⟨_, rfl, fun bad => ?_⟩,
    fun slots length => ⟨_, rfl, fun bad => ?_, fun range twice => ?_⟩,
    fun c p ls length => ⟨_, rfl, fun high => ?_, fun low bad => ?_, fun low policy own same twice => ?_⟩,
    fun c p bs length => ⟨_, rfl, fun high => ?_, fun low bad => ?_⟩,
    fun c p => ⟨_, rfl, fun high => ?_, fun low bad => ?_⟩, fun b => ⟨_, rfl, fun high => ?_, fun low bad => ?_⟩,
    fun kp ki ks period band => ⟨_, rfl, fun bad => ?_⟩, fun b => ⟨_, rfl, fun bad => ?_⟩,
    fun mg hard due => ⟨_, rfl, fun standby bad => ?_⟩⟩
  · exact refuses (.setLoad l w c g) rfl (setLoad_noSuch high w c g _)
  · exact refuses (.setLoad l w c g) rfl (setLoad_range low bad _)
  · exact refuses (.setSupply b) rfl (setSupply_range bad _)
  · exact refuses (.setPlacement slots) rfl (setPlacement_range bad _) (decide_eq_true length)
  · exact refuses (.setPlacement slots) rfl (setPlacement_duplicate range twice _) (decide_eq_true length)
  · exact refuses (.setRotation c p (some _)) rfl (setRotation_noSuch high p (some (ls.map loadByte)) _) (decide_eq_true (by simpa using length))
  · exact refuses (.setRotation c p (some _)) rfl (setRotation_range low bad) (decide_eq_true (by simpa using length))
  · exact refuses (.setRotation c p (some _)) rfl (setRotation_duplicate low policy own same twice)
      (decide_eq_true (by simpa using length))
  · exact refuses (.setRotation c p (some bs)) rfl (setRotation_noSuch high p (some bs) _) (decide_eq_true length)
  · exact refuses (.setRotation c p (some bs)) rfl (setRotation_unknown low bad _) (decide_eq_true length)
  · exact refuses (.setRotation c p .none) rfl (setRotation_noSuch high p .none _)
  · exact refuses (.setRotation c p .none) rfl (setRotation_policy low bad .none _)
  · exact refuses (.setModeEntry b) rfl (setModeEntry_noSuch high _)
  · exact refuses (.setModeEntry b) rfl (setModeEntry_range bad low _)
  · exact refuses (.setLoop kp ki ks period band) rfl (setLoop_range bad _)
  · exact refuses (.setWater b) rfl (setWater_range bad _)
  · exact (row_refuses (r := .setScale mg due hard) hears (by rw [standby]; rfl) (setScale_range bad _)).1

end Sys2Proof.Machine
end

section
/-!
CERTIFICATE. The power of a solo measurement (R26, R28).
-/

namespace Sys2Proof.Machine

/-- What a run of good half-cycle records, the first of them half-cycle `k`, adds to a measurement (R26). -/
def measured (k : Nat) (rs : List (Nat × Nat)) (m : Measurement) : Measurement :=
  { m with
    count := m.count + rs.length
    offSum := m.offSum + ((rs.take (5 - k)).map Prod.snd).sum
    onSum := m.onSum + ((rs.drop (5 - k)).map Prod.snd).sum
    voltSum := m.voltSum + ((rs.drop (5 - k)).map Prod.fst).sum }

theorem measured_baseline {k : Nat} (early : k ≤ 4) (r : Nat × Nat) (rs : List (Nat × Nat)) (m : Measurement) :
    measured (k + 1) rs (takeRecord k r.1 (some r.2) false m) = measured k (r :: rs) m := by
  have window : 5 - k = (5 - (k + 1)) + 1 := by omega
  simp [measured, takeRecord, early, window, Nat.add_assoc, Nat.add_comm 1]

theorem measured_late {k : Nat} (late : ¬ k ≤ 4) (r : Nat × Nat) (rs : List (Nat × Nat)) (m : Measurement) :
    measured (k + 1) rs (takeRecord k r.1 (some r.2) false m) = measured k (r :: rs) m := by
  have next : 5 - (k + 1) = 0 := by omega
  have this : 5 - k = 0 := by omega
  simp [measured, takeRecord, late, next, this, Nat.add_assoc, Nat.add_comm 1]

theorem foldl_takeRecord (rs : List (Nat × Nat)) : ∀ (k : Nat) (m : Measurement),
    (rs.zipIdx k).foldl (fun m p => takeRecord p.2 p.1.1 (some p.1.2) false m) m = measured k rs m := by
  induction rs with
  | nil => intro k m; simp [measured]
  | cons r rs ih =>
    intro k m
    rw [List.zipIdx_cons, List.foldl_cons, ih]
    by_cases early : k ≤ 4
    · exact measured_baseline early r rs m
    · exact measured_late early r rs m

theorem measure_eq (l : LoadId) (rs : List (Nat × Nat)) : measure l rs = measured 1 rs (newMeasurement l) :=
  foldl_takeRecord rs 1 _

/-- The sum over a window stays below its length times the bound of each record. -/
theorem sum_window_le {f : Nat × Nat → Nat} {b : Nat} {rs : List (Nat × Nat)} (h : ∀ p, p ∈ rs → f p ≤ b) :
    (rs.map f).sum ≤ rs.length * b := by
  have := List.sum_le_card_nsmul (rs.map f) b (List.forall_mem_map.2 h)
  simpa using this

/-- The mean of the window past the baseline stays below the bound of each record. -/
theorem mean_le {f : Nat × Nat → Nat} {b hc : Nat} {rs : List (Nat × Nat)} (length : rs.length = hc)
    (h : ∀ p, p ∈ rs → f p ≤ b) : ((rs.drop 4).map f).sum / (hc - 4) ≤ b := by
  refine Nat.div_le_of_le_mul ?_
  have := sum_window_le (rs := rs.drop 4) fun p mem => h p (List.mem_of_mem_drop mem)
  rwa [List.length_drop, length] at this

/-- At 280 V and 40 A a rise gives at most 11200 W. -/
theorem watts_le {v i : Nat} (hv : v ≤ 2800) (hi : i ≤ 40000) : (v * i + 5000) / 10000 ≤ 11200 := by
  have := Nat.mul_le_mul hv hi
  omega

/-- Settles O50: the windows' sums by induction on the records, and R28's arithmetic on their means. -/
theorem measuredPowerIsTheRise : Obligations.MeasuredPowerIsTheRise := by
  intro l hc rs _ length
  rw [measure_eq]
  refine ⟨by simp [measured, newMeasurement, length], rfl, ?_⟩
  intro off on volts rise w hoff hon hvolts hrise hw
  have rise_eq : rise = on - off := by rw [hrise]; split <;> omega
  refine ⟨?_, fun inside => ?_⟩
  · have power : measuredPower hc (measured 1 rs (newMeasurement l)) = min 11200 w := by
      simp [measuredPower, measured, newMeasurement, wattsOf, roundDiv, hw, rise_eq, hoff, hon, hvolts]
    rw [power]
    split <;> omega
  · have volts_le : volts ≤ 2800 := hvolts ▸ mean_le length fun p mem => (inside p mem).1
    have on_le : on ≤ 40000 := hon ▸ mean_le length fun p mem => (inside p mem).2
    rw [hw]
    exact watts_le volts_le (by omega)

end Sys2Proof.Machine
end

section
/-!
SUPPORT. The blocks that each shared operation writes, and the configuration that the inner blocks leave alone.
-/

namespace Sys2Proof.Machine

variable {s t u v : State} {bs cs : List Block}

theorem ChangesOnly.refl (bs : List Block) (s : State) : ChangesOnly bs s s := fun b _ => by cases b <;> rfl

/-- A chain in which every act writes blocks of one list. -/
theorem ChangesOnly.then (h : ChangesOnly bs s u) (k : ChangesOnly cs u v)
    (sub : ∀ b, b ∈ cs → b ∈ bs := by decide) : ChangesOnly bs s v := h.trans (k.mono sub)

theorem changesOnly_ite {p : Prop} [Decidable p] (ht : ChangesOnly bs s u) (hf : ChangesOnly bs s v) :
    ChangesOnly bs s (if p then u else v) := by
  split
  · exact ht
  · exact hf

theorem changesOnly_ldt (s : State) (d : Ldt) : ChangesOnly [.ldt] s { s with ldt := d } := fun b hb => by
  cases b <;> first | rfl | exact absurd hb (by simp)

theorem changesOnly_par (s : State) (p : Par) : ChangesOnly [.par] s { s with par := p } := fun b hb => by
  cases b <;> first | rfl | exact absurd hb (by simp)

theorem changesOnly_sgc (s : State) (g : Sgc) : ChangesOnly [.sgc] s { s with sgc := g } := fun b hb => by
  cases b <;> first | rfl | exact absurd hb (by simp)

theorem changesOnly_run (s : State) (r : Run) : ChangesOnly [.run] s { s with run := r } := fun b hb => by
  cases b <;> first | rfl | exact absurd hb (by simp)

theorem changesOnly_dlu (s : State) (d : Dlu) : ChangesOnly [.dlu] s { s with dlu := d } := fun b hb => by
  cases b <;> first | rfl | exact absurd hb (by simp)

theorem changesOnly_lif (s : State) (l : Lif) : ChangesOnly [.lif] s { s with lif := l } := fun b hb => by
  cases b <;> first | rfl | exact absurd hb (by simp)

theorem changesOnly_clc (s : State) (c : Clc) : ChangesOnly [.clc] s { s with clc := c } := fun b hb => by
  cases b <;> first | rfl | exact absurd hb (by simp)

theorem changesOnly_sca (s : State) (a : Sca) : ChangesOnly [.sca] s { s with sca := a } := fun b hb => by
  cases b <;> first | rfl | exact absurd hb (by simp)

theorem changesOnly_msu (s : State) (m : Msu) : ChangesOnly [.msu] s { s with msu := m } := fun b hb => by
  cases b <;> first | rfl | exact absurd hb (by simp)

theorem changesOnly_updLoad (f : Load → Load) (l : LoadId) (s : State) : ChangesOnly [.ldt] s (updLoad f l s) :=
  changesOnly_ldt s _

theorem changesOnly_setAux (a : Aux) (s : State) : ChangesOnly [.ldt] s (setAux a s) :=
  changesOnly_ite (.refl _ s) (changesOnly_ldt s _)

theorem changesOnly_withdraw (l : LoadId) (s : State) : ChangesOnly [.par] s (withdraw l s) := by
  unfold withdraw
  split
  · exact .refl _ s
  all_goals exact changesOnly_par s _

theorem changesOnly_putReason (b : Bool) (r : Reason) (l : LoadId) (s : State) :
    ChangesOnly [.ldt, .par] s (putReason b r l s) := by
  have add : ChangesOnly [.ldt, .par] s (addReason r l s) :=
    changesOnly_ite (.refl _ s) (((ChangesOnly.refl _ s).then (changesOnly_ldt s _)).then (changesOnly_withdraw l _))
  exact changesOnly_ite add ((changesOnly_ldt s _).mono (by decide))

theorem changesOnly_foldl {α : Type} {step : State → α → State} (h : ∀ u a, ChangesOnly bs u (step u a)) (as : List α)
    (s : State) : ChangesOnly bs s (as.foldl step s) := by
  induction as generalizing s with
  | nil => exact .refl _ s
  | cons a as ih => exact (h s a).trans (ih _)

theorem changesOnly_addReasonTo (r : Reason) (ls : List LoadId) (s : State) :
    ChangesOnly [.ldt, .par] s (addReasonTo r ls s) := changesOnly_foldl (fun u l => changesOnly_putReason true r l u) ls s

theorem changesOnly_removeReasonFrom (r : Reason) (ls : List LoadId) (s : State) :
    ChangesOnly [.ldt] s (removeReasonFrom r ls s) := changesOnly_foldl (fun u _ => changesOnly_ldt u _) ls s

theorem changesOnly_judgeDegraded (s : State) : ChangesOnly [.run] s (judgeDegraded s) :=
  changesOnly_ite (changesOnly_run s _) (.refl _ s)

theorem changesOnly_formDemand (s : State) : ChangesOnly [.sgc, .ldt] s (formDemand s) :=
  changesOnly_ite ((changesOnly_sgc s _).mono (by decide))
    (((changesOnly_sgc s _).mono (by decide)).then (changesOnly_updLoad _ _ _))

theorem changesOnly_setBoilerReasons (b : BoilerState) (s : State) : ChangesOnly [.ldt, .par] s (setBoilerReasons b s) :=
  (changesOnly_putReason _ _ _ s).then (changesOnly_putReason _ _ _ _)

theorem changesOnly_enterBoiler (b : BoilerState) (s : State) :
    ChangesOnly [.sgc, .ldt, .par, .run] s (enterBoiler b s) :=
  (((((changesOnly_sgc s _).mono (by decide)).then (changesOnly_setAux _ _)).then (changesOnly_setBoilerReasons b _)).then
    (changesOnly_judgeDegraded _)).then (changesOnly_formDemand _)

theorem changesOnly_noteMode (m : OvenMode) (s : State) : ChangesOnly [.lif, .ldt] s (noteMode m s) :=
  changesOnly_ite (.refl _ s) (((changesOnly_setAux _ s).mono (by decide)).then (changesOnly_lif _ _))

/-- The configuration stands wherever the inner blocks alone have written. -/
theorem sameConfig_of_inner (h : innerView t = innerView s) : SameConfig s t := by
  have par := congrArg InnerView.par h
  have clc := congrArg InnerView.clc h
  have water := congrArg InnerView.water h
  have fixed (l : LoadId) : fixedLoad (load t l) = fixedLoad (load s l) := by
    have e := congrArg (fun v => (v.loads.get l).1) h
    simpa only [innerView, PerLoad.get_of, innerLoad] using e
  simp only [innerView, Prod.mk.injEq] at par clc
  simp only [innerView, fixedSca, Prod.mk.injEq] at water
  obtain ⟨supply, placement, lists, policies⟩ := par
  obtain ⟨hardness, fillMl, advise, derate, lock, -⟩ := water
  refine ⟨supply, placement, lists, policies, clc.1, clc.2, congrArg InnerView.pst h, congrArg InnerView.svc h, fun l => ?_,
    hardness, fillMl, advise, derate, lock⟩
  have e := fixed l
  simp only [fixedLoad, Prod.mk.injEq] at e
  obtain ⟨rated, cls, leg, health, measuredW, verifyDue, -⟩ := e
  exact ⟨rated, cls, leg, health, measuredW, verifyDue⟩

theorem ovenMode_of_inner (h : innerView t = innerView s) : ovenMode t = ovenMode s := by
  have dlu : t.dlu = s.dlu := congrArg InnerView.dlu h
  have svc : t.svc = s.svc := congrArg InnerView.svc h
  have state : t.run.state = s.run.state := (congrArg (fun v => v.run.state) h :)
  simp only [ovenMode, dlu, svc, state]

theorem sameConfig_congr {s' t' : State} (h : SameConfig s t) (hs : ChangesOnly [.lif] s' s) (ht : ChangesOnly [.lif] t t') :
    SameConfig s' t' := by
  have loadS (l : LoadId) : load s l = load s' l := load_congr (hs .ldt (by decide)) l
  have loadT (l : LoadId) : load t' l = load t l := load_congr (ht .ldt (by decide)) l
  simp only [SameConfig, loadS, loadT, show t'.par = t.par from ht .par (by decide), show s.par = s'.par from hs .par (by decide),
    show t'.clc = t.clc from ht .clc (by decide), show s.clc = s'.clc from hs .clc (by decide),
    show t'.pst = t.pst from ht .pst (by decide), show s.pst = s'.pst from hs .pst (by decide),
    show t'.svc = t.svc from ht .svc (by decide), show s.svc = s'.svc from hs .svc (by decide),
    show t'.sca = t.sca from ht .sca (by decide), show s.sca = s'.sca from hs .sca (by decide)] at h ⊢
  exact h

/-- The reason that an owner puts on a load stands or not as it says (R19). -/
theorem putReason_has_same (b : Bool) (r : Reason) (l : LoadId) (s : State) :
    (load (putReason b r l s) l).mask.has r = b := by
  cases b
  · show (load (removeReason r l s) l).mask.has r = false
    rw [load_removeReason, if_pos rfl]
    exact Mask.has_put_same _ r false
  · exact addReason_has r l s

end Sys2Proof.Machine
end

section
/-!
CERTIFICATE. VERIFY and CLEAR_FAULT of a load, the oven and the boiler (R30, R31, R100, R171).
-/

namespace Sys2Proof.Machine

variable {s t u v : State}

theorem valid_verify (b : Byte) (mode : ovenMode s ≠ .fault) : validIn (.verify b) (ovenMode s) = true := by
  cases h : ovenMode s <;> first | rfl | exact absurd h mode

theorem valid_clearFault (target b : Byte) (m : OvenMode) : validIn (.clearFault target b) m = true := by
  cases m <;> rfl

/-- A request that its owning block accepts is answered in the state it leaves. -/
theorem row_accepts {r : Request} {body : List Byte} (h : Hears s) (valid : validIn r (ovenMode s) = true)
    (performed : perform r { s with lif := heardLif r s } = accept body u) (length : requestLengthOk r = true := by rfl) :
    requestRow r s = respond (requestCode r) (accept body u) := by
  rw [row_performs h valid length, performed]

theorem loadByte_ne (l : LoadId) : loadByte l ≠ 0xFF := by cases l <;> decide

/-! ## VERIFY (R30) -/

/-- A load's record as VERIFY of all loads leaves it (R30). -/
def verifiedLoad (d : Load) : Load := { d with verifyDue := d.verifyDue || !d.mask.health }

theorem updLoad_id {f : Load → Load} {l : LoadId} (h : f (load s l) = load s l) : updLoad f l s = s := by
  unfold updLoad setLoad
  rw [h]
  cases l <;> rfl

theorem verifyUnlessHealth_eq (u : State) (l : LoadId) : verifyUnlessHealth u l = updLoad verifiedLoad l u := by
  unfold verifyUnlessHealth
  split
  · rename_i health
    refine (updLoad_id ?_).symm
    simp [verifiedLoad, health]
  · rename_i clear
    simp [setVerify, updLoad, verifiedLoad, clear]

theorem load_verifyAll (s : State) (l : LoadId) : load (allLoads.foldl verifyUnlessHealth s) l = verifiedLoad (load s l) :=
  load_foldl_updLoad (f := fun _ => verifiedLoad) (fun u _ l => verifyUnlessHealth_eq u l) l

theorem shell_verifyAll (s : State) : shell (allLoads.foldl verifyUnlessHealth s) = shell s :=
  shell_foldl_updLoad (f := fun _ => verifiedLoad) fun u _ l => verifyUnlessHealth_eq u l

/-- Only the load records differ between states of one shell. -/
theorem changesOnly_of_shell (h : shell t = shell s) : ChangesOnly [.ldt] s t := fun b hb => by
  cases b
  case ldt => exact absurd hb (by simp)
  case msu => exact view_of_shell State.msu h
  case par => exact view_of_shell State.par h
  case clc => exact view_of_shell State.clc h
  case sgc => exact view_of_shell State.sgc h
  case sca => exact view_of_shell State.sca h
  case pst => exact view_of_shell State.pst h
  case run => exact view_of_shell State.run h
  case dlu => exact view_of_shell State.dlu h
  case lif => exact view_of_shell State.lif h
  case svc => exact view_of_shell State.svc h

theorem ldt_of_shell (h : shell t = shell s) : t.ldt = { s.ldt with loads := t.ldt.loads } := by
  have e := view_of_shell (fun u : State => { u.ldt with loads := .of fun _ => load State.reset .top }) h
  have f := congrArg (fun d : Ldt => { d with loads := t.ldt.loads }) e
  exact f

/-- VERIFY of one load that carries no HEALTH, and its refusal otherwise (R30). -/
theorem verify_one (l : LoadId) (s : State) : answerVerify (loadByte l) s
    = if (load s l).mask.health then refuse .state s else accept [] (setVerify l s) := by
  rw [answerVerify, if_neg (loadByte_ne l), loadOf_loadByte]

theorem verify_noSuch {b : Byte} (high : 4 < b.toNat) (one : b ≠ 0xFF) (s : State) : answerVerify b s = refuse .noSuch s := by
  rw [answerVerify, if_neg one, loadOf_eq_none.2 high]

theorem verify_load (l : LoadId) (hears : Hears s) (mode : ovenMode s ≠ .fault) :
    ∃ t, exec (.verify (loadByte l)) s = .next t ∧ SameNotices s t ∧
      ((load s l).mask.health = false → Answered (.verify (loadByte l)) .ok [] t ∧ ChangesOnly [.lif, .ldt] s t ∧
        t.ldt = { s.ldt with loads := s.ldt.loads.set l { load s l with verifyDue := true } }) ∧
      ((load s l).mask.health = true → Answered (.verify (loadByte l)) .state [] t ∧ ChangesOnly [.lif] s t) := by
  refine ⟨requestRow (.verify (loadByte l)) s, rfl, ?_⟩
  cases health : (load s l).mask.health with
  | true =>
    have refused := row_refuses (r := .verify (loadByte l)) hears (valid_verify _ mode)
      ((verify_one l _).trans (if_pos health))
    exact ⟨refused.2.2, (nomatch ·), fun _ => ⟨refused.1, refused.2.1⟩⟩
  | false =>
    rw [row_accepts (r := .verify (loadByte l)) hears (valid_verify _ mode)
      ((verify_one l _).trans (if_neg (ne_of_eq_of_ne health Bool.false_ne_true)))]
    exact ⟨⟨rfl, rfl⟩, fun _ => ⟨answered_still rfl (Prod.ext rfl hears.2),
      changesOnly_row (.verify (loadByte l)) (by decide) ((changesOnly_updLoad _ l _).mono (by decide)), rfl⟩, (nomatch ·)⟩

theorem verify_all (hears : Hears s) (mode : ovenMode s ≠ .fault) :
    ∃ t, exec (.verify 0xFF) s = .next t ∧ SameNotices s t ∧ Answered (.verify 0xFF) .ok [] t ∧
      ChangesOnly [.lif, .ldt] s t ∧ t.ldt = { s.ldt with loads := t.ldt.loads } ∧
      ∀ l, load t l = { load s l with verifyDue := (load s l).verifyDue || !(load s l).mask.health } := by
  have shelled := shell_verifyAll { s with lif := heardLif (.verify 0xFF) s }
  have loads := load_verifyAll { s with lif := heardLif (.verify 0xFF) s }
  have only := changesOnly_of_shell shelled
  refine ⟨requestRow (.verify 0xFF) s, rfl, ?_⟩
  rw [row_accepts (r := .verify 0xFF) (u := allLoads.foldl verifyUnlessHealth _) hears (valid_verify _ mode) rfl]
  generalize allLoads.foldl verifyUnlessHealth { s with lif := heardLif (.verify 0xFF) s } = u at *
  have lif : u.lif = heardLif (.verify 0xFF) s := only .lif (by decide)
  refine ⟨⟨(congrArg Lif.notices lif :), (congrArg Lif.pendingDef lif :)⟩, answered_still (s := s) ?_ ?_, changesOnly_row (.verify 0xFF) (by decide) (only.mono (by decide)),
    (ldt_of_shell shelled :), loads⟩
  · exact ovenMode_congr (only .svc (by decide)) (only .dlu (by decide)) (only .run (by decide))
  · rw [show (accept [] u).state = u from rfl, lif]
    exact Prod.ext rfl hears.2

/-! ## CLEAR_FAULT of a load (R31) -/

theorem clearFaultLoad_known (l : LoadId) (s : State) : clearFaultLoad (loadByte l) s
    = if (load s l).health = .opened ∨ (load s l).health = .high then accept [] (clearLoadFault l s) else refuse .state s := by
  rw [clearFaultLoad, loadOf_loadByte]

theorem clearFaultLoad_noSuch {b : Byte} (high : 4 < b.toNat) (s : State) : clearFaultLoad b s = refuse .noSuch s := by
  rw [clearFaultLoad, loadOf_eq_none.2 high]

theorem clear_load (l : LoadId) (hears : Hears s) :
    ∃ t, exec (.clearFaultLoad (loadByte l)) s = .next t ∧ SameNotices s t ∧
      ((load s l).health = .opened ∨ (load s l).health = .high →
        Answered (.clearFault 2 (loadByte l)) .ok [] t ∧ ChangesOnly [.lif, .ldt] s t ∧
        t.ldt = { s.ldt with loads := s.ldt.loads.set l { load s l with
          mask := { (load s l).mask with health := false }
          health := .untested, measuredW := .none, verifyDue := true } }) ∧
      ((load s l).health ≠ .opened → (load s l).health ≠ .high →
        Answered (.clearFault 2 (loadByte l)) .state [] t ∧ ChangesOnly [.lif] s t) := by
  refine ⟨requestRow (.clearFault 2 (loadByte l)) s, rfl, ?_⟩
  by_cases out : (load s l).health = .opened ∨ (load s l).health = .high
  · rw [row_accepts (r := .clearFault 2 (loadByte l)) hears (valid_clearFault 2 _ _)
      ((clearFaultLoad_known l _).trans (if_pos out)), clearLoadFault_eq]
    refine ⟨⟨rfl, rfl⟩, fun _ => ⟨answered_still rfl (Prod.ext rfl hears.2),
      changesOnly_row (.clearFault 2 (loadByte l)) (by decide) ((changesOnly_updLoad _ l _).mono (by decide)), rfl⟩, fun opened high => ?_⟩
    exact absurd out (not_or.2 ⟨opened, high⟩)
  · have refused := row_refuses (r := .clearFault 2 (loadByte l)) hears (valid_clearFault 2 _ _)
      ((clearFaultLoad_known l _).trans (if_neg out))
    exact ⟨refused.2.2, fun h => absurd h out, fun _ _ => ⟨refused.1, refused.2.1⟩⟩

/-! ## CLEAR_FAULT of the oven (R171) -/

/-- A load's record without FAULT_MODE. -/
def liftedLoad (d : Load) : Load := { d with mask := { d.mask with faultMode := false } }

theorem load_faultLifted (s : State) (l : LoadId) : load (faultLifted s) l = liftedLoad (load s l) := by
  rw [faultLifted, load_setAux]
  exact load_foldl_updLoad (step := fun u l => removeReason .faultMode l u) (f := fun _ => liftedLoad) (fun _ _ _ => rfl) l

theorem changesOnly_faultLifted (s : State) : ChangesOnly [.dlu, .ldt] s (faultLifted s) :=
  (((changesOnly_dlu s _).mono (by decide)).then (changesOnly_removeReasonFrom .faultMode allLoads _)).then (changesOnly_setAux _ _)

theorem changesOnly_clearOvenFault (s : State) : ChangesOnly [.lif, .dlu, .ldt] s (clearOvenFault s) :=
  ((changesOnly_faultLifted s).mono (by decide)).then (changesOnly_noteMode _ _)

theorem causePresent_iff : causePresent s = true ↔
    s.msu.cavity.fault = true ∨ s.msu.cavity.filtered = .none ∨ ∃ T, s.msu.cavity.filtered = some T ∧ 3000 < T := by
  unfold causePresent
  rw [Bool.or_eq_true]
  refine or_congr_right ?_
  cases h : s.msu.cavity.filtered with
  | none => simp
  | some T => rw [decide_eq_true_eq]; simp [Config.cavityLimit]

/-- The mode once the latch is clear (R172). -/
theorem ovenMode_clear (service : s.svc.service = false) (latch : s.dlu.latch = false) :
    ovenMode s = if s.run.state = .idle then .standby else .running := by
  unfold ovenMode
  rw [service, latch]
  cases s.run.state <;> rfl

/-- The latch's record cleared (R171). -/
theorem clearOvenFault_dlu (s : State) :
    (clearOvenFault s).dlu = { s.dlu with latch := false, causeLimit := false, causeSensor := false } := by
  rw [clearOvenFault_eq, (noteMode_noted _ _).dlu, (faultLifted_frame s).1]

theorem load_clearOvenFault (s : State) (l : LoadId) : load (clearOvenFault s) l = liftedLoad (load s l) := by
  rw [clearOvenFault_eq, (noteMode_noted _ _).load, load_faultLifted]

theorem clearOvenFault_coolFan (s : State) : (clearOvenFault s).ldt.aux.coolFan = false := by
  rw [clearOvenFault_eq, (noteMode_noted _ _).aux, faultLifted_aux]

theorem clearOvenFault_mode (service : s.svc.service = false) :
    ovenMode (clearOvenFault s) = if s.run.state = .idle then .standby else .running := by
  have only := changesOnly_clearOvenFault s
  have run : (clearOvenFault s).run = s.run := only .run (by decide)
  have svc : (clearOvenFault s).svc = s.svc := only .svc (by decide)
  rw [ovenMode_clear (by rw [svc, service]) (by rw [clearOvenFault_dlu]), run]

/-- The silence timer follows the mode, and the link stays heard (R185). -/
theorem clearOvenFault_silence (silence : SilenceFor (ovenMode s) s) (heard : s.lif.silent = false) :
    SilenceFor (ovenMode (clearOvenFault s)) (clearOvenFault s) ∧ (clearOvenFault s).lif.silent = false := by
  have lif : (faultLifted s).lif = s.lif := (changesOnly_faultLifted s) .lif (by decide)
  rw [clearOvenFault_eq]
  exact ⟨noteMode_silence (by rw [SilenceFor, lif]; exact silence), noteMode_heard (by rw [lif]; exact heard)⟩

theorem sameNotices_clearOvenFault (s : State) : SameNotices s (clearOvenFault s) := by
  have lif : (faultLifted s).lif = s.lif := (changesOnly_faultLifted s) .lif (by decide)
  rw [clearOvenFault_eq]
  constructor <;> rw [(noteMode_noted _ _).lif, lif]

theorem clear_oven (b : Byte) (hears : Hears s) :
    (∀ T, s.dlu.latch = true → s.msu.cavity.fault = false → s.msu.cavity.filtered = some T → T ≤ 3000 →
      ∃ t, exec (.clearFaultOven b) s = .next t ∧
        Answered (.clearFault 0 b) .ok [] t ∧
        ChangesOnly [.lif, .dlu, .ldt] s t ∧ SameNotices s t ∧
        t.dlu = { s.dlu with latch := false, causeLimit := false, causeSensor := false } ∧
        (∀ l, load t l = { load s l with mask := { (load s l).mask with faultMode := false } }) ∧
        t.ldt.aux.coolFan = false ∧
        (s.svc.service = false → ovenMode t = if s.run.state = .idle then .standby else .running)) ∧
    (s.dlu.latch = false ∨ s.msu.cavity.fault = true ∨ s.msu.cavity.filtered = .none
        ∨ (∃ T, s.msu.cavity.filtered = some T ∧ 3000 < T) →
      ∃ t, exec (.clearFaultOven b) s = .next t ∧ Answered (.clearFault 0 b) .state [] t ∧ ChangesOnly [.lif] s t) := by
  refine ⟨fun T latch fault filtered cool => ?_, fun blocked => ?_⟩
  · have clear : ¬ causePresent s = true := by
      rw [causePresent_iff, fault, filtered]
      simpa using cool
    have performed : perform (.clearFault 0 b) { s with lif := heardLif (.clearFault 0 b) s }
        = accept [] (clearOvenFault { s with lif := heardLif (.clearFault 0 b) s }) :=
      if_neg (by rw [Bool.or_eq_true, not_or]; exact ⟨by simp [latch], clear⟩)
    refine ⟨requestRow (.clearFault 0 b) s, rfl, ?_⟩
    rw [row_accepts hears (valid_clearFault 0 b _) performed]
    obtain ⟨timer, silent⟩ := clearOvenFault_silence (silenceFor_heard hears (.clearFault 0 b)) hears.2
    exact ⟨answered_respond timer silent, changesOnly_row _ (by decide) (changesOnly_clearOvenFault _),
      sameNotices_clearOvenFault { s with lif := heardLif (.clearFault 0 b) s }, clearOvenFault_dlu _, load_clearOvenFault _,
      clearOvenFault_coolFan _, fun service => clearOvenFault_mode (s := { s with lif := heardLif (.clearFault 0 b) s }) service⟩
  · have refused : perform (.clearFault 0 b) { s with lif := heardLif (.clearFault 0 b) s } = refuse .state
        { s with lif := heardLif (.clearFault 0 b) s } := by
      refine if_pos ?_
      rw [Bool.or_eq_true, causePresent_iff]
      exact blocked.imp_left fun clear => by simp [clear]
    have row := row_refuses hears (valid_clearFault 0 b _) refused
    exact ⟨_, rfl, row.1, row.2.1⟩

/-! ## CLEAR_FAULT of the boiler (R100) -/

theorem boilerCooled_iff : boilerCooled s = true ↔
    s.msu.boiler.fault = false ∧ ∃ T, s.msu.boiler.filtered = some T ∧ T < 1000 := by
  unfold boilerCooled
  rw [Bool.and_eq_true]
  cases h : s.msu.boiler.filtered with
  | none => simp
  | some T => rw [decide_eq_true_eq]; simp [Config.boilerCool]

/-- A boiler state entered, its demand not yet formed. -/
def boilerEntered (b : BoilerState) (s : State) : State :=
  judgeDegraded (setBoilerReasons b (setPumps b { s with sgc := { s.sgc with
      state := b
      prior := if b = .refilling then s.sgc.prior else .none
      thermostat := s.sgc.thermostat && (holdRuns s.sgc.state && holdRuns b)
      fillTimer := if b = .filling ∨ b = .refilling then 0 else s.sgc.fillTimer
      heatCount := if b = .heating then 0 else s.sgc.heatCount
      drainCount := if b = .draining ∧ s.msu.low.reported = .dry then some 0 else .none } }))

theorem enterBoiler_eq (b : BoilerState) (s : State) : enterBoiler b s = formDemand (boilerEntered b s) := rfl

theorem putReason_sgc (b : Bool) (r : Reason) (l : LoadId) (s : State) : (putReason b r l s).sgc = s.sgc :=
  changesOnly_putReason b r l s .sgc (by decide)

theorem judgeDegraded_ldt (s : State) : (judgeDegraded s).ldt = s.ldt := changesOnly_judgeDegraded s .ldt (by decide)

theorem judgeDegraded_sgc (s : State) : (judgeDegraded s).sgc = s.sgc := changesOnly_judgeDegraded s .sgc (by decide)

/-- What entering a boiler state makes of the record before the demand is formed (R81, R82). -/
theorem boilerEntered_sgc (b : BoilerState) (s : State) : (boilerEntered b s).sgc = { s.sgc with
      state := b
      prior := if b = .refilling then s.sgc.prior else .none
      thermostat := s.sgc.thermostat && (holdRuns s.sgc.state && holdRuns b)
      fillTimer := if b = .filling ∨ b = .refilling then 0 else s.sgc.fillTimer
      heatCount := if b = .heating then 0 else s.sgc.heatCount
      drainCount := if b = .draining ∧ s.msu.low.reported = .dry then some 0 else .none } := by
  rw [boilerEntered, judgeDegraded_sgc, setBoilerReasons, putReason_sgc, putReason_sgc, setPumps, setAux_sgc]

theorem formDemand_sgc (s : State) : (formDemand s).sgc = { s.sgc with demand := boilerDemand s } := by
  unfold formDemand; dsimp only; split <;> rfl

theorem formDemand_aux (s : State) : (formDemand s).ldt.aux = s.ldt.aux := by
  unfold formDemand; dsimp only; split <;> rfl

theorem formDemand_mask (s : State) (l : LoadId) : (load (formDemand s) l).mask = (load s l).mask := by
  unfold formDemand
  dsimp only
  split
  · rfl
  · exact load_setDemand_mask _ _ _ _

/-- LEVEL and DRYFIRE stand on BOILER as the state says (Table 5.2, R82). -/
theorem enterBoiler_mask (b : BoilerState) (s : State) : (load (enterBoiler b s) .boiler).mask.level = levelIn b
    ∧ (load (enterBoiler b s) .boiler).mask.dryfire = (b == .fault) := by
  rw [enterBoiler_eq, formDemand_mask, boilerEntered, load_congr (judgeDegraded_ldt _), setBoilerReasons]
  exact ⟨(putReason_has (q := .level) (by decide) _ _ _ _).trans (putReason_has_same _ .level _ _),
    putReason_has_same _ .dryfire _ _⟩

/-- The pumps run as the state says (Table 5.2). -/
theorem enterBoiler_aux (b : BoilerState) (s : State) : (enterBoiler b s).ldt.aux
    = { s.ldt.aux with feedPump := b == .filling || b == .refilling, drainPump := b == .draining } := by
  rw [enterBoiler_eq, formDemand_aux, boilerEntered, judgeDegraded_ldt, setBoilerReasons, putReason_aux, putReason_aux,
    setPumps, setAux_aux]

theorem boilerDemand_draining (draining : s.sgc.state = .draining) : boilerDemand s = 0 := by
  simp [boilerDemand, rawBoilerDemand, draining]

theorem clearBoilerFault_sgc (s : State) : (clearBoilerFault s).sgc.state = .draining
    ∧ (clearBoilerFault s).sgc.content = s.sgc.content ∧ (clearBoilerFault s).sgc.purpose = s.sgc.purpose
    ∧ (clearBoilerFault s).sgc.soakedS = s.sgc.soakedS ∧ (clearBoilerFault s).sgc.request = s.sgc.request
    ∧ (clearBoilerFault s).sgc.demand = 0 := by
  have entered := boilerEntered_sgc .draining s
  rw [clearBoilerFault, enterBoiler_eq, formDemand_sgc, boilerDemand_draining (by rw [entered]), entered]
  exact ⟨rfl, rfl, rfl, rfl, rfl, rfl⟩

theorem clear_boiler (b : Byte) (hears : Hears s) :
    (∀ T, s.sgc.state = .fault → s.msu.boiler.fault = false → s.msu.boiler.filtered = some T → T < 1000 →
      ∃ t, exec (.clearFaultBoiler b) s = .next t ∧ Answered (.clearFault 1 b) .ok [] t ∧
        ChangesOnly [.lif, .sgc, .ldt, .run, .par] s t ∧ SameNotices s t ∧ SameConfig s t ∧
        t.sgc.state = .draining ∧ t.sgc.content = s.sgc.content ∧ t.sgc.purpose = s.sgc.purpose ∧
        t.sgc.soakedS = s.sgc.soakedS ∧ t.sgc.request = s.sgc.request ∧ t.sgc.demand = 0 ∧
        (load t .boiler).mask.dryfire = false ∧ (load t .boiler).mask.level = true ∧ t.ldt.aux.drainPump = true) ∧
    (s.sgc.state ≠ .fault ∨ s.msu.boiler.fault = true ∨ s.msu.boiler.filtered = .none
        ∨ (∃ T, s.msu.boiler.filtered = some T ∧ 1000 ≤ T) →
      ∃ t, exec (.clearFaultBoiler b) s = .next t ∧ Answered (.clearFault 1 b) .state [] t ∧ ChangesOnly [.lif] s t) := by
  refine ⟨fun T fault good filtered cool => ?_, fun blocked => ?_⟩
  · have performed : perform (.clearFault 1 b) { s with lif := heardLif (.clearFault 1 b) s }
        = accept [] (clearBoilerFault { s with lif := heardLif (.clearFault 1 b) s }) :=
      if_pos ⟨fault, boilerCooled_iff.2 ⟨good, T, filtered, cool⟩⟩
    refine ⟨requestRow (.clearFault 1 b) s, rfl, ?_⟩
    rw [row_accepts hears (valid_clearFault 1 b _) performed]
    have config := sameConfig_of_inner (inner_clearBoilerFault { s with lif := heardLif (.clearFault 1 b) s })
    have only := changesOnly_enterBoiler .draining { s with lif := heardLif (.clearFault 1 b) s }
    obtain ⟨state, content, purpose, soaked, request, demand⟩ := clearBoilerFault_sgc { s with lif := heardLif (.clearFault 1 b) s }
    obtain ⟨level, dryfire⟩ := enterBoiler_mask .draining { s with lif := heardLif (.clearFault 1 b) s }
    have aux := enterBoiler_aux .draining { s with lif := heardLif (.clearFault 1 b) s }
    have lif : (clearBoilerFault _).lif = heardLif (.clearFault 1 b) s := only .lif (by decide)
    refine ⟨answered_still (ovenMode_of_inner (inner_clearBoilerFault _)) ?_, changesOnly_row _ (by decide) (only.mono (by decide)),
      ⟨(congrArg Lif.notices lif :), (congrArg Lif.pendingDef lif :)⟩,
      sameConfig_congr config (changesOnly_heard _ s) (changesOnly_respond _ (accept [] _)), state, content, purpose, soaked, request, demand, dryfire,
      level, congrArg Aux.drainPump aux⟩
    show ((clearBoilerFault _).lif.silence, (clearBoilerFault _).lif.silent) = _
    rw [lif]
    exact Prod.ext rfl hears.2
  · have refused : perform (.clearFault 1 b) { s with lif := heardLif (.clearFault 1 b) s } = refuse .state
        { s with lif := heardLif (.clearFault 1 b) s } := by
      refine if_neg ?_
      rintro ⟨fault, cooled⟩
      obtain ⟨good, T, filtered, cool⟩ := boilerCooled_iff.1 cooled
      obtain other | bad | none | ⟨T', filtered', hot⟩ := blocked
      · exact other fault
      · exact absurd (good.symm.trans bad) Bool.false_ne_true
      · exact absurd (none.symm.trans filtered) (by simp)
      · have e := Option.some.inj (filtered'.symm.trans filtered)
        omega
    have row := row_refuses hears (valid_clearFault 1 b _) refused
    exact ⟨_, rfl, row.1, row.2.1⟩

/-- Settles O36: one lemma for each request. -/
theorem faultsAreCleared : Obligations.FaultsAreCleared := by
  refine ⟨fun l s hears mode => verify_load l hears mode, fun s hears mode => verify_all hears mode,
    fun l s hears => clear_load l hears, fun b s hears => clear_oven b hears, fun b s hears high => ⟨fun mode one => ?_, ?_⟩,
    fun b s hears => clear_boiler b hears⟩
  · exact ⟨_, rfl, row_refuses (r := .verify b) hears (valid_verify b mode) (verify_noSuch high one _)⟩
  · exact ⟨_, rfl, row_refuses (r := .clearFault 2 b) hears (valid_clearFault 2 b _) (clearFaultLoad_noSuch high _)⟩

end Sys2Proof.Machine
end

section
/-!
CERTIFICATE. The loop update: H's split, G and VENT (R67, R71 to R75).
-/

namespace Sys2Proof.Machine

variable {s t u v : State}

/-! ## What the steam generator's judgement writes -/

/-- Only blocks that the steam generator's judgement of a hand-over writes differ. -/
structure JudgedOnly (s t : State) : Prop where
  only : ChangesOnly [.sgc, .sca, .ldt, .par, .run] s t

theorem JudgedOnly.refl : JudgedOnly s s := ⟨.refl _ s⟩

theorem JudgedOnly.then {bs : List Block} (h : JudgedOnly s u) (k : ChangesOnly bs u v)
    (sub : ∀ b, b ∈ bs → b ∈ [.sgc, .sca, .ldt, .par, .run] := by decide) : JudgedOnly s v := ⟨h.only.then k sub⟩

theorem judged_ite {p : Prop} [Decidable p] (ht : JudgedOnly s u) (hf : JudgedOnly s v) :
    JudgedOnly s (if p then u else v) := ⟨changesOnly_ite ht.only hf.only⟩

theorem judged_formDemand (h : JudgedOnly s u) : JudgedOnly s (formDemand u) := h.then (changesOnly_formDemand u)

theorem judged_enterBoiler (h : JudgedOnly s u) (b : BoilerState) : JudgedOnly s (enterBoiler b u) :=
  h.then (changesOnly_enterBoiler b u)

theorem judged_record (h : JudgedOnly s u) (g : Sgc) : JudgedOnly s { u with sgc := g } := h.then (changesOnly_sgc u g)

theorem judged_setPurpose (h : JudgedOnly s u) (p : Purpose) : JudgedOnly s (setPurpose p u) :=
  (judged_record h _).then (changesOnly_putReason _ _ _ _)

theorem judged_enterSoaking (h : JudgedOnly s u) (t : Int) : JudgedOnly s (enterSoaking t u) :=
  judged_formDemand (judged_record (judged_enterBoiler (judged_record h _) _) _)

theorem judged_judgeStanding (h : JudgedOnly s u) : JudgedOnly s (judgeStanding u) := by
  unfold judgeStanding
  repeat' split
  all_goals apply_rules [judged_enterBoiler, judged_setPurpose, judged_enterSoaking]

theorem judged_endFill (h : JudgedOnly s u) : JudgedOnly s (endFill u) := by
  unfold endFill
  exact judged_judgeStanding (judged_enterBoiler (judged_ite (judged_record h _) h) _)

theorem judged_takeFillStart (h : JudgedOnly s u) (c : FillContent) : JudgedOnly s (takeFillStart c u) := by
  cases c with
  | water => exact h
  | descaler => exact (h.then (changesOnly_sca u _)).then (changesOnly_judgeDegraded _)

theorem judged_beginFill (h : JudgedOnly s u) (c : FillContent) (p : Purpose) : JudgedOnly s (beginFill c p u) :=
  have filling := judged_takeFillStart (judged_enterBoiler (judged_setPurpose (judged_record h _) p) .filling) c
  judged_ite (judged_endFill filling) filling

theorem judged_judgeEmpty (h : JudgedOnly s u) : JudgedOnly s (judgeEmpty u) := by
  unfold judgeEmpty
  repeat' split
  all_goals apply_rules [judged_beginFill]

theorem judged_judgeHeating (h : JudgedOnly s u) : JudgedOnly s (judgeHeating u) := by
  unfold judgeHeating
  repeat' split
  all_goals apply_rules [judged_enterBoiler, judged_enterSoaking]

theorem judged_judgeHot (h : JudgedOnly s u) : JudgedOnly s (judgeHot u) := by
  unfold judgeHot
  repeat' split
  all_goals apply_rules [judged_enterBoiler, judged_enterSoaking]

theorem judged_judgeBoiler (h : JudgedOnly s u) : JudgedOnly s (judgeBoiler u) := by
  unfold judgeBoiler
  refine judged_formDemand ?_
  split
  · exact judged_judgeEmpty h
  · exact judged_judgeStanding h
  · exact judged_judgeHeating h
  · exact judged_judgeHot h
  · exact judged_judgeHot h
  · exact judged_record h _
  all_goals exact h

theorem judged_handToBoiler (share hum : Nat) (s : State) : JudgedOnly s (handToBoiler share hum s) :=
  judged_judgeBoiler (judged_record .refl _)

/-- What the steam generator leaves of a climate hand-over: the records, VENT and the element demands (R72, R84). -/
structure HandOverStands (s t : State) : Prop where
  clc : t.clc = s.clc
  hand : handed t.sgc = handed s.sgc
  vent : t.ldt.aux.vent = s.ldt.aux.vent
  demands : ∀ l, l ≠ .boiler → (load t l).demand = (load s l).demand
  mode : ovenMode t = ovenMode s
  service : ovenMode s = .service → ∀ l, (load t l).demand = (load s l).demand

theorem HandOverStands.refl : HandOverStands s s := ⟨rfl, rfl, rfl, fun _ _ => rfl, rfl, fun _ _ => rfl⟩

theorem HandOverStands.trans (h : HandOverStands s u) (k : HandOverStands u v) : HandOverStands s v where
  clc := k.clc.trans h.clc
  hand := k.hand.trans h.hand
  vent := k.vent.trans h.vent
  demands l ne := (k.demands l ne).trans (h.demands l ne)
  mode := k.mode.trans h.mode
  service m l := (k.service (h.mode.trans m) l).trans (h.service m l)

theorem handOverStands_boilerMove (m : BoilerMove s t) : HandOverStands s t := by
  have mode := ovenMode_of_inner (quiet_boilerMove m).view
  cases m with
  | sgc g hand => exact ⟨rfl, hand, rfl, fun _ _ => rfl, mode, fun _ _ => rfl⟩
  | sca | degraded | notice => exact ⟨rfl, rfl, rfl, fun _ _ => rfl, mode, fun _ _ => rfl⟩
  | reason r own b =>
    exact ⟨(putReason_blocks b r .boiler s).1, by rw [putReason_sgc], by rw [putReason_aux],
      fun l _ => load_putReason_demand b r .boiler l s, mode, fun _ l => load_putReason_demand b r .boiler l s⟩
  | demand n outside =>
    exact ⟨rfl, rfl, rfl, fun l ne => congrArg Load.demand (load_updLoad_other _ s ne), mode, fun m => absurd m outside⟩
  | pumps => exact ⟨by rw [setAux_clc], by rw [setAux_sgc], by rw [setAux_aux], fun l _ => by rw [load_setAux], mode,
      fun _ l => by rw [load_setAux]⟩

theorem BoilerMoves.handOverStands (h : BoilerMoves s t) : HandOverStands s t :=
  h.keeps (P := HandOverStands s) (fun _ _ m k => k.trans (handOverStands_boilerMove m)) .refl

/-! ## One loop update in equations -/

/-- The state that a loop update hands to the steam generator (R67). -/
def loopFormed (s : State) : State :=
  evalVent { (heatUpdate s).1 with clc := { (heatUpdate s).1.clc with humid := humidUpdate (heatUpdate s).1 } }

theorem loopUpdate_eq (s : State) : loopUpdate s
    = handToBoiler (heatUpdate s).2 (humQuantaOf (humidUpdate (heatUpdate s).1)) (loopFormed s) := rfl

theorem loopExpires_eq (due : s.clc.loopTimer.isSome = true) : loopExpires s = restartLoopTimer (loopUpdate s) := if_pos due

/-- What one loop update leaves, of what it forms. -/
structure LoopUpdated (s t : State) : Prop where
  clc : t.clc = { (loopFormed s).clc with loopTimer := t.clc.loopTimer }
  share : t.sgc.share = (heatUpdate s).2
  hum : t.sgc.humQuanta = humQuantaOf (humidUpdate (heatUpdate s).1)
  vent : t.ldt.aux.vent = (loopFormed s).ldt.aux.vent
  demands : ∀ l, l ≠ .boiler → (load t l).demand = (load (heatUpdate s).1 l).demand
  service : ovenMode s = .service → ∀ l, (load t l).demand = (load s l).demand

/-- The temperature loop writes its record and the demands alone. -/
theorem heatUpdate_frame (s : State) : ChangesOnly [.clc, .ldt] s (heatUpdate s).1 ∧ (heatUpdate s).1.ldt.aux = s.ldt.aux
    ∧ (ovenMode s = .service → ∀ l, load (heatUpdate s).1 l = load s l)
    ∧ ∃ h i d, (heatUpdate s).1.clc = { s.clc with heat := h, integral := i, demands := d } := by
  obtain e | ⟨h, i, -, -, e⟩ := heatUpdate_cases s
  · rw [e]
    exact ⟨.refl _ s, rfl, fun _ _ => rfl, s.clc.heat, s.clc.integral, s.clc.demands, rfl⟩
  · rw [e]
    refine ⟨?_, ?_, fun service l => ?_, h, i, _, applyHeat_clc h i s⟩
    · refine ((changesOnly_clc s _).mono (by decide)).then (cs := [.ldt]) (changesOnly_ite (.refl _ _) ?_)
      iterate 3 refine ChangesOnly.trans ?_ (changesOnly_updLoad _ _ _)
      exact changesOnly_updLoad _ _ _
    · show (writeDemands _ _).ldt.aux = _
      unfold writeDemands
      split <;> rfl
    · show load (writeDemands _ _) l = _
      rw [writeDemands, if_pos]
      · rfl
      · exact service

theorem loopFormed_clc (s : State) :
    (loopFormed s).clc = { (heatUpdate s).1.clc with humid := humidUpdate (heatUpdate s).1 } := setAux_clc _ _

theorem load_loopFormed (s : State) (l : LoadId) : load (loopFormed s) l = load (heatUpdate s).1 l := load_setAux _ _ l

theorem changesOnly_loopFormed (s : State) : ChangesOnly [.clc, .ldt] s (loopFormed s) :=
  ((heatUpdate_frame s).1.then (changesOnly_clc _ _)).then (changesOnly_setAux _ _)

theorem loopUpdated_loopExpires (due : s.clc.loopTimer.isSome = true) : LoopUpdated s (loopExpires s) := by
  have stands := (boiler_judgeBoiler (s := { loopFormed s with sgc := { (loopFormed s).sgc with
    share := (heatUpdate s).2, humQuanta := humQuantaOf (humidUpdate (heatUpdate s).1)
    needsSteam := climateNeedsSteam (loopFormed s).clc.climate } }) .refl).handOverStands
  have mode : ovenMode (loopFormed s) = ovenMode s := by
    have only := changesOnly_loopFormed s
    exact ovenMode_congr (only .svc (by decide)) (only .dlu (by decide)) (only .run (by decide))
  have hand := stands.hand
  simp only [handed, Prod.mk.injEq] at hand
  obtain ⟨share, hum, -⟩ := hand
  rw [loopExpires_eq due]
  refine ⟨?_, share, hum, stands.vent, fun l ne => ?_, fun service l => ?_⟩
  · have clc : (loopUpdate s).clc = (loopFormed s).clc := stands.clc
    simp only [restartLoopTimer, clc]
  · exact (stands.demands l ne).trans (congrArg Load.demand (load_loopFormed s l))
  · refine (stands.service (mode.trans service) l).trans (congrArg Load.demand ((load_loopFormed s l).trans ?_))
    exact (heatUpdate_frame s).2.2.1 service l

/-! ## The temperature loop's cases (R71) -/

theorem heatUpdate_unused (h : s.clc.climate.tempUse = false ∨ s.clc.climate.setpoint = .none) :
    heatUpdate s = applyHeat 0 0 s := by
  unfold heatUpdate
  dsimp only
  obtain off | none := h
  · rw [off]
  · rw [none]
    cases s.clc.climate.tempUse <;> rfl

theorem heatUpdate_faulted (use : s.clc.climate.tempUse = true) (set : s.clc.climate.setpoint.isSome = true)
    (fault : s.msu.cavity.fault = true) : heatUpdate s = applyHeat 0 s.clc.integral s := by
  obtain ⟨x, setpoint⟩ := Option.isSome_iff_exists.1 set
  simp only [heatUpdate, use, setpoint, fault, if_true]

theorem heatUpdate_unsettled (use : s.clc.climate.tempUse = true) (set : s.clc.climate.setpoint.isSome = true)
    (good : s.msu.cavity.fault = false) (none : s.msu.cavity.filtered = .none) : heatUpdate s = (s, s.sgc.share) := by
  obtain ⟨x, setpoint⟩ := Option.isSome_iff_exists.1 set
  simp only [heatUpdate, use, setpoint, good, none, Bool.false_eq_true, if_false]

theorem heatUpdate_present (present : s.msu.cavity.filtered.isSome = true) : ∃ h i, heatUpdate s = applyHeat h i s := by
  obtain ⟨x, filtered⟩ := Option.isSome_iff_exists.1 present
  by_cases unused : s.clc.climate.tempUse = false ∨ s.clc.climate.setpoint = .none
  · exact ⟨_, _, heatUpdate_unused unused⟩
  obtain ⟨use, set⟩ := not_or.1 unused
  rw [Bool.not_eq_false] at use
  by_cases fault : s.msu.cavity.fault = true
  · exact ⟨_, _, heatUpdate_faulted use (Option.isSome_iff_ne_none.2 set) fault⟩
  · obtain ⟨y, setpoint⟩ := Option.ne_none_iff_exists'.1 set
    unfold heatUpdate
    dsimp only
    rw [use, setpoint]
    dsimp only
    rw [if_neg fault, filtered]
    exact ⟨_, _, rfl⟩

/-- The element demands reach the load records outside SERVICE (R18). -/
theorem writeDemands_demand (d : PerElement) (outside : ovenMode s ≠ .service) :
    (load (writeDemands d s) .top).demand = d.top ∧ (load (writeDemands d s) .bottom).demand = d.bottom
      ∧ (load (writeDemands d s) .ring).demand = d.ring ∧ (load (writeDemands d s) .grill).demand = d.grill := by
  rw [writeDemands, if_neg outside]
  exact ⟨rfl, rfl, rfl, rfl⟩

theorem splitHeat_zero (e : ModeEntry) : splitHeat 0 e = { top := 0, bottom := 0, ring := 0, grill := 0 } := by
  simp [splitHeat, quantaOf]

/-! ## G and VENT (R73 to R75) -/

theorem humidUpdate_heatUpdate (s : State) : humidUpdate (heatUpdate s).1 = humidUpdate s := by
  obtain ⟨only, -, -, h, i, d, clc⟩ := heatUpdate_frame s
  have msu : (heatUpdate s).1.msu = s.msu := only .msu (by decide)
  simp only [humidUpdate, clc, msu]

theorem ventValue_heatUpdate (s : State) (g : Nat) :
    ventValue { (heatUpdate s).1 with clc := { (heatUpdate s).1.clc with humid := g } } = ventValue s := by
  obtain ⟨only, aux, -, h, i, d, clc⟩ := heatUpdate_frame s
  have msu : (heatUpdate s).1.msu = s.msu := only .msu (by decide)
  simp only [ventValue, clc, msu, aux]

theorem loopFormed_vent (s : State) : (loopFormed s).ldt.aux.vent = ventValue s := by
  rw [loopFormed, evalVent, setAux_aux]
  exact ventValue_heatUpdate s _

theorem humidUpdate_unused (h : s.clc.climate.humUse = false ∨ s.clc.climate.humSet = .none) : humidUpdate s = 0 := by
  unfold humidUpdate
  dsimp only
  obtain off | none := h
  · rw [off]
  · rw [none]
    cases s.clc.climate.humUse <;> rfl

theorem cast_humidDemand (ks : Nat) (set h : Int) :
    (humidDemand ks set h : Int) = max 0 (min 1000 ((ks : Int) * (set - h) * 10)) := by
  unfold humidDemand clamp
  generalize (ks : Int) * (set - h) * 10 = x
  split
  · omega
  · split <;> omega

theorem ventValue_auto (kind : s.clc.climate.kind ≠ .none) (auto : s.clc.climate.vent = .auto)
    (h : s.clc.climate.humUse = false ∨ s.clc.climate.humSet = .none) :
    ventValue s = decide (s.clc.climate.entry.boiler = 0) := by
  unfold ventValue
  dsimp only
  rw [if_neg kind, if_neg (by rw [auto]; decide)]
  obtain off | none := h
  · rw [off]
  · rw [none]
    cases s.clc.climate.humUse <;> rfl

/-- Under the humidity loop VENT holds while the moisture channel says nothing (R75). -/
theorem ventValue_holds {set : Int} (kind : s.clc.climate.kind ≠ .none) (auto : s.clc.climate.vent = .auto)
    (use : s.clc.climate.humUse = true) (hum : s.clc.climate.humSet = some set)
    (silent : s.msu.moisture.fault = true ∨ s.msu.moisture.filtered = .none) : ventValue s = s.ldt.aux.vent := by
  unfold ventValue
  dsimp only
  rw [if_neg kind, if_neg (by rw [auto]; decide), use, hum]
  dsimp only
  split
  · rfl
  · rw [silent.resolve_left ‹_›]

/-- Under the humidity loop VENT opens above the band and closes at the setpoint (R75). -/
theorem ventValue_follows {set x : Int} (kind : s.clc.climate.kind ≠ .none) (auto : s.clc.climate.vent = .auto)
    (use : s.clc.climate.humUse = true) (hum : s.clc.climate.humSet = some set) (good : s.msu.moisture.fault = false)
    (present : s.msu.moisture.filtered = some x) :
    ventValue s = if set + s.clc.loop.band < x then true else if x ≤ set then false else s.ldt.aux.vent := by
  unfold ventValue
  dsimp only
  rw [if_neg kind, if_neg (by rw [auto]; decide), use, hum]
  dsimp only
  rw [if_neg (by simp [good]), present]

/-! ## The frame of a loop update -/

theorem changesOnly_loopExpires (due : s.clc.loopTimer.isSome = true) :
    ChangesOnly [.clc, .sgc, .sca, .ldt, .par, .run] s (loopExpires s) := by
  rw [loopExpires_eq due, loopUpdate_eq]
  exact (((changesOnly_loopFormed s).mono (by decide)).then (judged_handToBoiler _ _ _).only).then (changesOnly_clc _ _)

theorem inner_loopExpires (due : s.clc.loopTimer.isSome = true) : innerView (loopExpires s) = innerView s := by
  rw [loopExpires_eq due, inner_restartLoopTimer, inner_loopUpdate]

theorem run_of_inner (h : innerView t = innerView s) : t.run = { s.run with degraded := t.run.degraded } := by
  have e := congrArg (fun v => { v.run with degraded := t.run.degraded }) h
  exact e

theorem loopExpires_loopTimer (due : s.clc.loopTimer.isSome = true) (kind : s.clc.climate.kind ≠ .none) :
    (loopExpires s).clc.loopTimer = some s.clc.loop.period := by
  have loop : (loopUpdate s).clc.loop = s.clc.loop := congrArg (fun v => v.clc.2) (inner_loopUpdate s)
  have climate := loopUpdate_climate s
  rw [loopExpires_eq due, restartLoopTimer]
  dsimp only
  rw [climate, if_neg kind, loop]

theorem LoopUpdated.climate (h : LoopUpdated s t) : t.clc.climate = s.clc.climate := by
  rw [h.clc, loopFormed_clc, heatUpdate_climate]

theorem LoopUpdated.humid (h : LoopUpdated s t) : t.clc.humid = humidUpdate s := by
  rw [h.clc, loopFormed_clc, humidUpdate_heatUpdate]

theorem LoopUpdated.humQuanta (h : LoopUpdated s t) : t.sgc.humQuanta = (t.clc.humid * 16 + 500) / 1000 := by
  rw [h.hum, h.humid, humidUpdate_heatUpdate, humQuantaOf]

theorem LoopUpdated.vented (h : LoopUpdated s t) : t.ldt.aux.vent = ventValue s := h.vent.trans (loopFormed_vent s)

/-- A loop update that applies a heat demand: the records, the boiler share and the element demands (R72). -/
theorem LoopUpdated.applied (h : LoopUpdated s t) {heat i : Nat} (e : heatUpdate s = applyHeat heat i s) :
    t.clc.heat = heat ∧ t.clc.integral = i ∧ t.clc.demands = splitHeat heat s.clc.climate.entry
      ∧ t.sgc.share = quantaOf heat s.clc.climate.entry.boiler
      ∧ (ovenMode s ≠ .service → (load t .top).demand = t.clc.demands.top ∧ (load t .bottom).demand = t.clc.demands.bottom
        ∧ (load t .ring).demand = t.clc.demands.ring ∧ (load t .grill).demand = t.clc.demands.grill) := by
  have clc := h.clc
  rw [loopFormed_clc, e, applyHeat_clc] at clc
  have share := h.share
  have demands := h.demands
  rw [e] at share demands
  refine ⟨by rw [clc], by rw [clc], by rw [clc], share, fun outside => ?_⟩
  obtain ⟨top, bottom, ring, grill⟩ := writeDemands_demand (s := { s with clc := { s.clc with
    heat := heat, integral := i, demands := splitHeat heat s.clc.climate.entry } }) (splitHeat heat s.clc.climate.entry) outside
  rw [clc]
  exact ⟨(demands .top (by decide)).trans top, (demands .bottom (by decide)).trans bottom,
    (demands .ring (by decide)).trans ring, (demands .grill (by decide)).trans grill⟩

/-- A heat demand of 0 leaves every element and the boiler share at 0 (R71). -/
theorem LoopUpdated.off (h : LoopUpdated s t) {i : Nat} (e : heatUpdate s = applyHeat 0 i s) :
    t.clc.demands = { top := 0, bottom := 0, ring := 0, grill := 0 } ∧ t.sgc.share = 0
      ∧ (ovenMode s ≠ .service → ∀ l, l ≠ .boiler → (load t l).demand = 0) := by
  obtain ⟨-, -, demands, share, written⟩ := h.applied e
  rw [splitHeat_zero] at demands
  refine ⟨demands, by rw [share]; simp [quantaOf], fun outside l ne => ?_⟩
  obtain ⟨top, bottom, ring, grill⟩ := written outside
  rw [demands] at top bottom ring grill
  cases l with
  | top => exact top
  | bottom => exact bottom
  | ring => exact ring
  | grill => exact grill
  | boiler => exact absurd rfl ne

theorem loopUpdate_splits (due : s.clc.loopTimer.isSome = true) (kind : s.clc.climate.kind ≠ .none)
    (present : s.msu.cavity.filtered.isSome = true) :
    ∃ t, exec .loopUpdate s = .next t ∧ ChangesOnly [.clc, .sgc, .sca, .ldt, .par, .run] s t ∧ SameConfig s t ∧
      t.run = { s.run with degraded := t.run.degraded } ∧
      t.clc.climate = s.clc.climate ∧ t.clc.loopTimer = some s.clc.loop.period ∧
      (∀ q : Nat → Nat, q = (fun w => (t.clc.heat * w * 16 + 50000) / 100000) →
        t.clc.demands = { top := q s.clc.climate.entry.top, bottom := q s.clc.climate.entry.bottom
                          ring := q s.clc.climate.entry.ring, grill := q s.clc.climate.entry.grill } ∧
        t.sgc.share = q s.clc.climate.entry.boiler) ∧
      (ovenMode s ≠ .service →
        (load t .top).demand = t.clc.demands.top ∧ (load t .bottom).demand = t.clc.demands.bottom ∧
        (load t .ring).demand = t.clc.demands.ring ∧ (load t .grill).demand = t.clc.demands.grill) ∧
      (ovenMode s = .service → ∀ l, (load t l).demand = (load s l).demand) ∧
      t.sgc.humQuanta = (t.clc.humid * 16 + 500) / 1000 := by
  have updated := loopUpdated_loopExpires due
  obtain ⟨h, i, e⟩ := heatUpdate_present present
  obtain ⟨heat, -, demands, share, written⟩ := updated.applied e
  refine ⟨_, rfl, changesOnly_loopExpires due, sameConfig_of_inner (inner_loopExpires due), run_of_inner (inner_loopExpires due),
    updated.climate, loopExpires_loopTimer due kind, ?_, written, updated.service, updated.humQuanta⟩
  rintro q rfl
  rw [demands, share, heat]
  exact ⟨rfl, rfl⟩

theorem LoopUpdated.heat_cases (h : LoopUpdated s t) :
    (s.clc.climate.tempUse = false ∨ s.clc.climate.setpoint = .none → t.clc.heat = 0 ∧ t.clc.integral = 0) ∧
      (s.clc.climate.tempUse = true → s.clc.climate.setpoint.isSome = true → s.msu.cavity.fault = true →
        t.clc.heat = 0 ∧ t.clc.integral = s.clc.integral) ∧
      (s.clc.climate.tempUse = false ∨ s.clc.climate.setpoint = .none ∨ s.msu.cavity.fault = true →
        t.clc.demands = { top := 0, bottom := 0, ring := 0, grill := 0 } ∧ t.sgc.share = 0 ∧
        (ovenMode s ≠ .service → ∀ l, l ≠ .boiler → (load t l).demand = 0)) ∧
      (s.clc.climate.tempUse = true → s.clc.climate.setpoint.isSome = true → s.msu.cavity.fault = false →
        s.msu.cavity.filtered = .none →
        t.clc.heat = s.clc.heat ∧ t.clc.integral = s.clc.integral ∧ t.clc.demands = s.clc.demands ∧
        t.sgc.share = s.sgc.share ∧ ∀ l, l ≠ .boiler → (load t l).demand = (load s l).demand) := by
  refine ⟨fun unused => ?_, fun use set fault => ?_, fun off => ?_, fun use set good none => ?_⟩
  · obtain ⟨heat, integral, -⟩ := h.applied (heatUpdate_unused unused)
    exact ⟨heat, integral⟩
  · obtain ⟨heat, integral, -⟩ := h.applied (heatUpdate_faulted use set fault)
    exact ⟨heat, integral⟩
  · by_cases used : s.clc.climate.tempUse = true ∧ s.clc.climate.setpoint.isSome = true
    · obtain unused | unset | fault := off
      · exact absurd (used.1.symm.trans unused) (by simp)
      · exact absurd used.2 (by simp [unset])
      · exact h.off (heatUpdate_faulted used.1 used.2 fault)
    · refine h.off (heatUpdate_unused ?_)
      by_cases use : s.clc.climate.tempUse = true
      · exact .inr (by simpa [use] using used)
      · exact .inl (by simpa using use)
  · have e := heatUpdate_unsettled use set good none
    have clc := h.clc
    have share := h.share
    have demands := h.demands
    rw [loopFormed_clc] at clc
    rw [e] at clc share demands
    exact ⟨by rw [clc], by rw [clc], by rw [clc], share, demands⟩

theorem LoopUpdated.humid_loop (h : LoopUpdated s t) {hs : Int} (use : s.clc.climate.humUse = true)
    (set : s.clc.climate.humSet = some hs) :
    (s.msu.moisture.fault = true → t.clc.humid = 500 ∧ t.sgc.humQuanta = 8) ∧
      (s.msu.moisture.fault = false → s.msu.moisture.filtered = .none → t.clc.humid = s.clc.humid) ∧
      ∀ x, s.msu.moisture.fault = false → s.msu.moisture.filtered = some x →
        (t.clc.humid : Int) = max 0 (min 1000 ((s.clc.loop.ks : Int) * (hs - x) * 10)) := by
  rw [h.humQuanta, h.humid]
  refine ⟨fun fault => ?_, fun good none => ?_, fun x good present => ?_⟩
  · simp [humidUpdate, use, set, fault]
  · simp [humidUpdate, use, set, good, none]
  · rw [← cast_humidDemand]
    simp [humidUpdate, use, set, good, present]

theorem LoopUpdated.vent_cases (h : LoopUpdated s t) :
    (s.clc.climate.kind = .none → t.ldt.aux.vent = false) ∧
      (s.clc.climate.kind ≠ .none → s.clc.climate.vent = .opened → t.ldt.aux.vent = true) ∧
      (s.clc.climate.kind ≠ .none → s.clc.climate.vent = .auto →
        (s.clc.climate.humUse = false ∨ s.clc.climate.humSet = .none →
          t.ldt.aux.vent = decide (s.clc.climate.entry.boiler = 0)) ∧
        ∀ hs, s.clc.climate.humUse = true → s.clc.climate.humSet = some hs →
          (s.msu.moisture.fault = true ∨ s.msu.moisture.filtered = .none → t.ldt.aux.vent = s.ldt.aux.vent) ∧
          ∀ x, s.msu.moisture.fault = false → s.msu.moisture.filtered = some x →
            t.ldt.aux.vent = if hs + s.clc.loop.band < x then true else if x ≤ hs then false else s.ldt.aux.vent) := by
  rw [h.vented]
  exact ⟨fun none => if_pos none, fun kind opened => (if_neg kind).trans (if_pos opened), fun kind auto => ⟨ventValue_auto kind auto,
    fun hs use set => ⟨ventValue_holds kind auto use set, fun x good present => ventValue_follows kind auto use set good present⟩⟩⟩

/-- Settles O54: each case of R67's update, read off what the update hands to the steam generator. -/
theorem loopUpdatesSplitTheHeat : Obligations.LoopUpdatesSplitTheHeat := by
  refine ⟨fun s due kind _ _ present => loopUpdate_splits due kind present, fun s due => ?_⟩
  have updated := loopUpdated_loopExpires due
  obtain ⟨unused, faulted, off, unsettled⟩ := updated.heat_cases
  refine ⟨_, rfl, sameConfig_of_inner (inner_loopExpires due), updated.climate, unused, faulted, off, unsettled,
    fun h => updated.humid.trans (humidUpdate_unused h), fun hs use set => updated.humid_loop use set, updated.humQuanta,
    updated.vent_cases⟩

end Sys2Proof.Machine
end

section
/-!
CERTIFICATE. The debounced door (R76, R144, R166 to R168, R23).
-/

namespace Sys2Proof.Machine

variable {s t u v : State}

/-! ## The frames of a door event -/

/-- The configuration stands wherever runs and door events alone have written. -/
theorem sameConfig_of_fixed (h : fixedView t = fixedView s) : SameConfig s t := by
  have par := congrArg FixedView.par h
  have clc := congrArg FixedView.clc h
  have water := congrArg FixedView.water h
  simp only [fixedView, InnerView.fixed, innerView, fixedSca, Prod.mk.injEq] at par clc water
  obtain ⟨supply, placement, lists, policies⟩ := par
  obtain ⟨hardness, fillMl, advise, derate, lock, -⟩ := water
  refine ⟨supply, placement, lists, policies, clc.1, clc.2, congrArg FixedView.pst h, congrArg FixedView.svc h, fun l => ?_,
    hardness, fillMl, advise, derate, lock⟩
  have e := fixed_load h l
  simp only [fixedLoad, Prod.mk.injEq] at e
  obtain ⟨rated, cls, leg, health, measuredW, verifyDue, -⟩ := e
  exact ⟨rated, cls, leg, health, measuredW, verifyDue⟩

theorem changesOnly_setPause (p : PauseSet) (s : State) : ChangesOnly [.run, .ldt, .par] s (setPause p s) := by
  have written := (changesOnly_run s { s.run with pause := p }).mono (cs := [.run, .ldt, .par]) (by decide)
  exact changesOnly_ite (written.then (changesOnly_addReasonTo _ _ _))
    (changesOnly_ite (written.then (changesOnly_removeReasonFrom _ _ _)) written)

theorem changesOnly_addPause (r : PauseReason) (s : State) : ChangesOnly [.run, .ldt, .par] s (addPause r s) :=
  changesOnly_ite (changesOnly_setPause _ s) (.refl _ s)

/-- A reason that leaves a pause set adds no mask reason. -/
theorem changesOnly_leavePause (r : PauseReason) (s : State) : ChangesOnly [.run, .ldt] s (leavePause r s) := by
  unfold leavePause
  split
  · rename_i stands
    have held : s.run.pause.isEmpty = false := by
      rw [Bool.eq_false_iff, Ne, PauseSet.isEmpty_iff]
      exact fun none => absurd (none r) (by simp [stands])
    have written := (changesOnly_run s { s.run with pause := s.run.pause.put r false }).mono (cs := [.run, .ldt]) (by decide)
    unfold setPause
    dsimp only
    rw [held, Bool.false_and, if_neg Bool.false_ne_true]
    exact changesOnly_ite (written.then (changesOnly_removeReasonFrom _ _ _)) written
  · exact .refl _ s

theorem lampFan_aux (s : State) : (evalLamp (evalFan s)).ldt.aux
    = { s.ldt.aux with fan := fanValue s, lamp := s.dlu.door == .opened || ovenMode s == .running } := by
  have mode : ovenMode (evalFan s) = ovenMode s := (beside_setAux _ s).mode
  have fan : (evalFan s).ldt.aux = { s.ldt.aux with fan := fanValue s } := setAux_aux _ s
  have dlu : (evalFan s).dlu = s.dlu := setAux_dlu _ s
  rw [evalLamp, setAux_aux, fan, mode, dlu]

theorem changesOnly_lampFan (s : State) : ChangesOnly [.ldt] s (evalLamp (evalFan s)) :=
  (changesOnly_setAux _ s).trans (changesOnly_setAux _ _)

theorem load_lampFan (s : State) (l : LoadId) : load (evalLamp (evalFan s)) l = load s l := by
  simp only [evalLamp, evalFan, load_setAux]

/-! ## The door opens (R167) -/

theorem changesOnly_doorOpened (s : State) : ChangesOnly [.dlu, .ldt, .par] s (doorOpened s) :=
  (((changesOnly_dlu s _).mono (by decide)).then (changesOnly_addReasonTo _ _ _)).then (changesOnly_lampFan _)

theorem doorOpened_dlu (s : State) : (doorOpened s).dlu = { s.dlu with door := .opened } :=
  ((changesOnly_lampFan _) .dlu (by decide)).trans (addReasonTo_dlu .door elements _)

/-- FAN stops and LAMP is lit while the door is open (R23, R76). -/
theorem doorOpened_aux (s : State) : (doorOpened s).ldt.aux.fan = .off ∧ (doorOpened s).ldt.aux.lamp = true := by
  have dlu := addReasonTo_dlu .door elements { s with dlu := { s.dlu with door := .opened } }
  rw [doorOpened, lampFan_aux]
  exact ⟨if_pos (by rw [dlu]), by rw [dlu]; rfl⟩

theorem doorOpened_door (s : State) (l : LoadId) :
    (load (doorOpened s) l).mask.door = (decide (l ∈ elements) || (load s l).mask.door) := by
  rw [doorOpened, load_lampFan]
  exact addReasonTo_has .door .door elements l { s with dlu := { s.dlu with door := .opened } }

/-- What the run engine keeps of a door opening (R144). -/
theorem doorView_pauseForDoor (s : State) : doorView (pauseForDoor s) = doorView s := by
  unfold pauseForDoor
  split
  · exact (show doorView (raise .doorPause (addPause .door s)) = _ from rfl).trans (addPause_doorView .door s)
  · rfl

theorem pauseForDoor_aux (s : State) : (pauseForDoor s).ldt.aux = s.ldt.aux := by
  unfold pauseForDoor
  split
  · exact addPause_aux .door s
  · rfl

theorem changesOnly_pauseForDoor (s : State) : ChangesOnly [.run, .ldt, .par, .lif] s (pauseForDoor s) :=
  changesOnly_ite (((changesOnly_addPause .door s).mono (by decide)).then (changesOnly_lif _ _)) (.refl _ s)

/-- DOOR stands in the pause set afterwards where the run takes it (R144). -/
theorem pauseForDoor_run (s : State) (taken : s.run.pause.door = true → takesPause s.run.state .door = true) :
    (pauseForDoor s).run = { s.run with pause := { s.run.pause with door := takesPause s.run.state .door } } := by
  unfold pauseForDoor
  split
  · rename_i c
    refine (show (raise .doorPause (addPause .door s)).run = (addPause .door s).run from rfl).trans ?_
    rw [addPause_run, if_pos c.1, c.1]
    rfl
  · rename_i c
    have door : s.run.pause.door = takesPause s.run.state .door := by
      cases door : s.run.pause.door with
      | true => exact (taken door).symm
      | false => exact (Bool.eq_false_iff.2 fun takes => c ⟨takes, by simp [door]⟩).symm
    rw [← door]

theorem pauseForDoor_notice (takes : takesPause s.run.state .door = true) (new : s.run.pause.door = false) :
    (pauseForDoor s).lif.notices.doorPause = true := by
  rw [pauseForDoor, if_pos ⟨takes, by simp [new]⟩]
  exact (raise_has .doorPause .doorPause _).trans (by simp)

/-- The debounce timer has stopped. -/
def debounced (s : State) : State := { s with dlu := { s.dlu with debounce := false } }

theorem debounceExpires_opens (due : s.dlu.debounce = true) (input : s.dlu.input = .opened) (door : s.dlu.door ≠ .opened) :
    debounceExpires s = pauseForDoor (doorOpened (debounced s)) := by
  have differs : doorDiffers (debounced s).dlu = true := by
    unfold doorDiffers debounced
    dsimp only
    rw [input]
    cases h : s.dlu.door <;> first | rfl | exact absurd h door
  have takes : doorTakes (debounced s) = doorOpens (debounced s) := by
    unfold doorTakes debounced
    dsimp only
    rw [input]
  exact (if_pos due).trans ((if_pos differs).trans takes)

theorem debounceExpires_closes (due : s.dlu.debounce = true) (input : s.dlu.input = .closed) (door : s.dlu.door ≠ .closed) :
    debounceExpires s = settleRun (dropPause .door (doorClosed (debounced s))) := by
  have differs : doorDiffers (debounced s).dlu = true := by
    unfold doorDiffers debounced
    dsimp only
    rw [input]
    cases h : s.dlu.door <;> first | rfl | exact absurd h door
  have takes : doorTakes (debounced s) = doorCloses (debounced s) := by
    unfold doorTakes debounced
    dsimp only
    rw [input]
  exact (if_pos due).trans ((if_pos differs).trans takes)

theorem debounceExpires_still (due : s.dlu.debounce = true)
    (same : s.dlu.input = .opened ∧ s.dlu.door = .opened ∨ s.dlu.input = .closed ∧ s.dlu.door = .closed) :
    debounceExpires s = debounced s := by
  have still : ¬ doorDiffers (debounced s).dlu = true := by
    unfold doorDiffers debounced
    dsimp only
    obtain ⟨input, door⟩ | ⟨input, door⟩ := same <;> simp [input, door]
  exact (if_pos due).trans (if_neg still)

theorem door_opens (due : s.dlu.debounce = true) (input : s.dlu.input = .opened) (door : s.dlu.door ≠ .opened)
    (firing : FiringLaw s) (pause : PauseLaw s) :
    ∃ t, exec .doorDebounceExpiry s = .next t ∧ ChangesOnly [.dlu, .ldt, .par, .run, .lif] s t ∧ SameConfig s t ∧
      t.dlu = { s.dlu with door := .opened, debounce := false } ∧ t.ldt.aux.fan = .off ∧ t.ldt.aux.lamp = true ∧
      (∀ l, l ≠ .boiler → (load t l).mask.door = true ∧ (load t l).on = false) ∧
      (load t .boiler).mask.door = (load s .boiler).mask.door ∧
      t.run = { s.run with pause := { s.run.pause with door := takesPause s.run.state .door } } ∧
      (takesPause s.run.state .door = true → s.run.pause.door = false → t.lif.notices.doorPause = true) ∧
      ∀ l, (load t l).mask.pause = !t.run.pause.isEmpty := by
  have kept := keeps_debounceExpires s
  refine ⟨_, rfl, ?_⟩
  rw [debounceExpires_opens due input door] at kept ⊢
  have firing' := kept.table.firing firing
  have only := changesOnly_doorOpened (debounced s)
  have run : (doorOpened (debounced s)).run = s.run := only .run (by decide)
  have view := doorView_pauseForDoor (doorOpened (debounced s))
  have aux := pauseForDoor_aux (doorOpened (debounced s))
  obtain ⟨fan, lamp⟩ := doorOpened_aux (debounced s)
  have mask (l : LoadId) : (load (pauseForDoor (doorOpened (debounced s))) l).mask.door
      = (decide (l ∈ elements) || (load s l).mask.door) :=
    (doorView_masks view l).1.trans (doorOpened_door (debounced s) l)
  have masked (l : LoadId) (ne : l ≠ .boiler) : (load (pauseForDoor (doorOpened (debounced s))) l).mask.door = true := by
    rw [mask, decide_eq_true (mem_elements.2 ne), Bool.true_or]
  refine ⟨?_, ?_, (congrArg DoorView.dlu view).trans (doorOpened_dlu _), by rw [aux, fan], by rw [aux, lamp],
    fun l ne => ⟨masked l ne, ?_⟩, mask .boiler, ?_, fun takes new => ?_, kept.pause pause |>.masks⟩
  · exact (((changesOnly_dlu s _).mono (by decide)).then only).then (changesOnly_pauseForDoor _)
  · exact sameConfig_of_fixed (s := debounced s)
      ((fixed_pauseForDoor _).trans (writes_doorOpened (s := debounced s) .refl).fixed)
  · rw [Bool.eq_false_iff]
    intro on
    have clear := (Mask.isEmpty_iff _).1 (firing'.on_allowed l on).1 .door
    exact absurd ((masked l ne).symm.trans clear) (by simp)
  · rw [pauseForDoor_run _ (by rw [run]; exact pause.taken .door), run]
  · exact pauseForDoor_notice (by rw [run]; exact takes) (by rw [run]; exact new)

/-! ## The door closes (R168) -/

theorem changesOnly_doorClosed (s : State) : ChangesOnly [.dlu, .ldt] s (doorClosed s) :=
  (((changesOnly_dlu s _).mono (by decide)).then (changesOnly_removeReasonFrom _ _ _)).then (changesOnly_lampFan _)

theorem doorClosed_dlu (s : State) : (doorClosed s).dlu = { s.dlu with door := .closed } :=
  ((changesOnly_lampFan _) .dlu (by decide)).trans (removeReasonFrom_dlu .door elements _)

theorem doorClosed_door (s : State) {l : LoadId} (ne : l ≠ .boiler) : (load (doorClosed s) l).mask.door = false := by
  rw [doorClosed, load_lampFan]
  refine (removeReasonFrom_has .door .door elements l { s with dlu := { s.dlu with door := .closed } }).trans ?_
  rw [decide_eq_true (mem_elements.2 ne)]
  rfl

theorem fanFollows_lampFan (s : State) : FanFollows (evalLamp (evalFan s)) := by
  have only := changesOnly_lampFan s
  have value : fanValue (evalLamp (evalFan s)) = fanValue s := by
    simp only [fanValue, show (evalLamp (evalFan s)).dlu = s.dlu from only .dlu (by decide),
      show (evalLamp (evalFan s)).clc = s.clc from only .clc (by decide),
      show (evalLamp (evalFan s)).msu = s.msu from only .msu (by decide)]
  rw [FanFollows, value, lampFan_aux]

theorem lampFor_lampFan (s : State) : LampFor (ovenMode (evalLamp (evalFan s))) (evalLamp (evalFan s)) := by
  have only := changesOnly_lampFan s
  have mode : ovenMode (evalLamp (evalFan s)) = ovenMode s :=
    ovenMode_congr (only .svc (by decide)) (only .dlu (by decide)) (only .run (by decide))
  rw [LampFor, mode, lampFan_aux, show (evalLamp (evalFan s)).dlu = s.dlu from only .dlu (by decide)]

theorem GoesOn.fanFollows (g : GoesOn s t) (h : FanFollows s) : FanFollows t := by
  obtain ⟨fan, value⟩ | follows := g.fan
  · exact fan.trans (h.trans value.symm)
  · exact follows

theorem plainRun_door {r q : Run} (e : plainRun q = plainRun r) : q.pause.door = r.pause.door :=
  congrArg PauseSet.door (plainRun_pause e)

/-- No act of a run puts DOOR into the pause set (R144, R167). -/
theorem StepAct.door_out (a : StepAct s t) (out : s.run.pause.door = false) : t.run.pause.door = false := by
  cases a with
  | quiet w q => rw [plainRun_door (inner_run q.view), out]
  | setpoints | awaitNext | faultCause => exact out
  | addPause r door =>
    rw [addPause_run]
    dsimp only
    split
    · exact (PauseSet.has_put _ r .door true).trans ((if_neg door.symm).trans out)
    · exact out
  | leavePause r =>
    rw [leavePause_run]
    refine (PauseSet.has_put _ r .door false).trans ?_
    split
    · rfl
    · exact out
  | record r core =>
    simp only [runCore, Prod.mk.injEq] at core
    obtain ⟨-, -, -, -, pause, -⟩ := core
    exact (congrArg PauseSet.door pause).trans out
  | beginStep pos => rw [(beginStep_spec pos s).1.door, out]
  | holding k =>
    rw [plainRun_door (enterHolding_run k s)]
    exact out
  | ending c => rw [plainRun_door (endingEntry_run c s)]; rfl
  | idle =>
    rw [plainRun_door (enterIdle_run s)]
    exact out

theorem StepActs.door_out (h : StepActs s t) : s.run.pause.door = false → t.run.pause.door = false :=
  h.keeps fun _ _ a => a.door_out

theorem dropPause_door (s : State) : dropPause .door s = leavePause .door s := if_neg (by rintro ⟨e, -⟩; cases e)

/-- A run that stands in a step of a user program, or in no step, is not settled (R149, R161). -/
theorem settleRun_still (user : ∀ st, currentStep s = some st → isUserStep st = true) (state : s.run.state ≠ .ending) :
    settleRun s = s := by
  have unserved : boilerStepServed s = false := by
    unfold boilerStepServed
    cases h : currentStep s with
    | none => simp
    | some st => cases st <;> first | exact absurd (user _ h) Bool.false_ne_true | simp
  rw [settleRun, unserved, if_neg Bool.false_ne_true, settleEnding, if_neg fun c => state c.1]

theorem currentStep_congr (pst : t.pst = s.pst) (slot : t.run.slot = s.run.slot) (state : t.run.state = s.run.state)
    (position : t.run.position = s.run.position) : currentStep t = currentStep s := by
  have user (n : Nat) : userProgram t n = userProgram s n := by simp only [userProgram, pst]
  have at_ (n k : Nat) : stepAt t n k = stepAt s n k := by simp only [stepAt, user, pst]
  have now : hasCurrent t = hasCurrent s := by simp only [hasCurrent, state]
  unfold currentStep
  rw [now, slot, position]
  split
  · split
    · exact at_ _ _
    · rfl
  · rfl

theorem door_closes (due : s.dlu.debounce = true) (input : s.dlu.input = .closed) (door : s.dlu.door ≠ .closed) :
    ∃ t, exec .doorDebounceExpiry s = .next t ∧ SameConfig s t ∧
      t.dlu = { s.dlu with door := .closed, debounce := false } ∧
      (∀ l, l ≠ .boiler → (load t l).mask.door = false) ∧ t.run.pause.door = false ∧
      t.ldt.aux.lamp = (ovenMode t == .running) ∧
      (t.clc.climate.kind ≠ .none → t.ldt.aux.fan = t.clc.climate.entry.fan) ∧
      (t.clc.climate.kind = .none →
        (∀ T, s.msu.cavity.filtered = some T → t.ldt.aux.fan = if 600 < T then .low else .off) ∧
        (s.msu.cavity.filtered = .none → t.ldt.aux.fan = .off)) ∧
      ((∀ st, currentStep s = some st → isUserStep st = true) → s.run.state ≠ .ending →
        ChangesOnly [.dlu, .ldt, .run] s t ∧ t.run = { s.run with pause := { s.run.pause with door := false } } ∧
        (PauseLaw s → ∀ l, (load t l).mask.pause = !t.run.pause.isEmpty)) := by
  have kept := keeps_debounceExpires s
  refine ⟨_, rfl, ?_⟩
  rw [debounceExpires_closes due input door, dropPause_door] at kept ⊢
  have only := ((changesOnly_doorClosed (debounced s)).mono (cs := [.dlu, .ldt, .run]) (by decide)).then
    (changesOnly_leavePause .door _)
  have closed : (doorClosed (debounced s)).run = s.run := (changesOnly_doorClosed (debounced s)) .run (by decide)
  have left := leavePause_run .door (doorClosed (debounced s))
  rw [closed] at left
  have acts : StepActs (doorClosed (debounced s)) (settleRun (leavePause .door (doorClosed (debounced s)))) :=
    acts_settleRun (StepActs.refl.tail (.leavePause .door))
  have goes := acts.goesOn
  have fixed := acts.writes.fixed.trans (writes_doorClosed (s := debounced s) .refl).fixed
  have follows := goes.fanFollows (fanFollows_lampFan _)
  have lamp := goes.lamp (lampFor_lampFan _)
  have dlu := goes.dlu.trans (doorClosed_dlu (debounced s))
  have msu : (settleRun (leavePause .door (doorClosed (debounced s)))).msu = s.msu := congrArg FixedView.msu fixed
  have out := (acts_settleRun (.refl (s := leavePause .door (doorClosed (debounced s))))).door_out (by rw [left]; rfl)
  have still (user : ∀ st, currentStep s = some st → isUserStep st = true) (state : s.run.state ≠ .ending) :
      settleRun (leavePause .door (doorClosed (debounced s))) = leavePause .door (doorClosed (debounced s)) := by
    refine settleRun_still (fun st current => user st ?_) (by rw [left]; exact state)
    rw [← current]
    exact (currentStep_congr (only .pst (by decide)) (by rw [left]; rfl) (by rw [left]; rfl) (by rw [left]; rfl)).symm
  generalize leavePause .door (doorClosed (debounced s)) = u at *
  refine ⟨sameConfig_of_fixed (s := debounced s) fixed, dlu, fun l ne => (goes.masks l).1.trans (doorClosed_door _ ne), out, ?_,
    fun kind => ?_, fun kind => ?_, fun user state => ?_⟩
  · rw [lamp, dlu]; rfl
  · rw [follows, fanValue, dlu, if_neg (show ¬ DoorState.closed = .opened by decide), if_pos kind]
  · rw [follows, fanValue, dlu, if_neg (show ¬ DoorState.closed = .opened by decide), if_neg (not_not.2 kind), msu]
    exact ⟨fun T present => by rw [present]; rfl, fun none => by rw [none]⟩
  · rw [still user state] at kept ⊢
    exact ⟨((changesOnly_dlu s _).mono (by decide)).then only, left, fun pause => (kept.pause pause).masks⟩

/-- Settles O52: the level's change, and the three cases of the expiry. -/
theorem theDoorIsDebounced : Obligations.TheDoorIsDebounced := fun _ =>
  ⟨fun _ => ⟨_, rfl, rfl⟩, fun due input door firing pause => door_opens due input door firing pause,
    fun due input door => door_closes due input door, fun due same => ⟨_, rfl, debounceExpires_still due same⟩⟩

end Sys2Proof.Machine
end

section
/-!
CERTIFICATE. INIT: what each block gives up and what it keeps (R37, R61, R80, R104, R121, R141, R165, R174, R187, R189).
-/

namespace Sys2Proof.Machine

variable {s t u v : State}

/-! ## No run, and a boiler at rest -/

theorem judgeDegraded_idle (idle : s.run.state = .idle) : judgeDegraded s = s := by
  have none : currentStep s = .none := by simp [currentStep, hasCurrent, idle]
  rw [judgeDegraded, none]
  rfl

theorem enterBoiler_idle (b : BoilerState) (idle : s.run.state = .idle) : (enterBoiler b s).run = s.run := by
  have formed := (changesOnly_formDemand (boilerEntered b s)) .run (by decide)
  refine (show (enterBoiler b s).run = (boilerEntered b s).run from formed).trans ?_
  have run {g : Sgc} : (setBoilerReasons b (setPumps b { s with sgc := g })).run = s.run :=
    ((changesOnly_setBoilerReasons b _) .run (by decide)).trans (setAux_run _ _)
  unfold boilerEntered
  rw [judgeDegraded_idle (by rw [run]; exact idle), run]

/-- The steam generator is asked nothing and holds nothing hot: it judges nothing but its demand (R84, R85). -/
structure Resting (s : State) : Prop where
  state : s.sgc.state = .empty ∨ s.sgc.state = .draining
  request : s.sgc.request = .none
  lookAhead : s.sgc.lookAhead = false

theorem judgeBoiler_resting (h : Resting s) (need : s.sgc.needsSteam = false) : judgeBoiler s = formDemand s := by
  have want : cookingWant s = false := by simp [cookingWant, h.lookAhead, need]
  have empty : judgeEmpty s = s := by
    simp only [judgeEmpty, h.request, want, Bool.false_and, Bool.false_eq_true, if_false, ite_self]
  unfold judgeBoiler
  obtain e | e := h.state
  · rw [e]; dsimp only; rw [empty]
  · rw [e]

theorem boilerDemand_resting (h : s.sgc.state = .empty ∨ s.sgc.state = .draining) : boilerDemand s = 0 := by
  obtain e | e := h
  · simp [boilerDemand, rawBoilerDemand, e]
  · exact boilerDemand_draining e

/-! ## The absent climate handed to a resting boiler (R80) -/

/-- The climate controller's record with no climate handed over. -/
def climateGone (s : State) : State := { s with clc := { s.clc with climate := .absent, integral := 0 } }

/-- The state whose BOILER demand is formed as no climate is handed over. -/
def absentFormed (s : State) : State :=
  { loopFormed (climateGone s) with sgc := { s.sgc with share := 0, humQuanta := 0, needsSteam := false } }

theorem heatUpdate_gone (s : State) : heatUpdate (climateGone s) = applyHeat 0 0 (climateGone s) := heatUpdate_unused (.inl rfl)

theorem humidUpdate_gone (s : State) : humidUpdate (heatUpdate (climateGone s)).1 = 0 :=
  (humidUpdate_heatUpdate _).trans (humidUpdate_unused (.inl rfl))

theorem loopFormed_gone_sgc (s : State) : (loopFormed (climateGone s)).sgc = s.sgc := (changesOnly_loopFormed _) .sgc (by decide)

theorem loopFormed_gone_clc (s : State) : (loopFormed (climateGone s)).clc = { s.clc with
    climate := .absent, heat := 0, integral := 0, humid := 0, demands := { top := 0, bottom := 0, ring := 0, grill := 0 } } := by
  rw [loopFormed_clc, humidUpdate_gone, heatUpdate_gone, applyHeat_clc, splitHeat_zero]
  rfl

theorem loopUpdate_gone (rest : Resting s) : loopUpdate (climateGone s) = formDemand (absentFormed s) := by
  have share : (heatUpdate (climateGone s)).2 = 0 := by rw [heatUpdate_gone, applyHeat_share]; simp [quantaOf]
  have need : climateNeedsSteam (loopFormed (climateGone s)).clc.climate = false := by rw [loopFormed_gone_clc]; rfl
  have sgc := loopFormed_gone_sgc s
  rw [loopUpdate_eq, share, humidUpdate_gone, handToBoiler, need, sgc]
  exact judgeBoiler_resting (s := absentFormed s) ⟨rest.state, rest.request, rest.lookAhead⟩ rfl

theorem handOver_absent (rest : Resting s) :
    handOver .absent s = evalFan (restartLoopTimer (formDemand (absentFormed s))) := by
  have keep : keepsIntegral s.clc.climate .absent = false := by simp [keepsIntegral, Climate.absent]
  have vent : ventAtHandOver .absent (climateGone s) = climateGone s := if_neg (by simp [Climate.absent])
  rw [← loopUpdate_gone rest, ← vent]
  unfold handOver climateGone
  rw [keep]
  rfl

/-- What handing over no climate leaves of a state whose boiler rests. -/
structure ClimateGone (s t : State) : Prop where
  only : ChangesOnly [.clc, .ldt, .sgc] s t
  sgc : t.sgc = { s.sgc with share := 0, humQuanta := 0, needsSteam := false, demand := 0 }
  clc : t.clc = { s.clc with climate := .absent, loopTimer := .none, heat := 0, integral := 0, humid := 0,
                             demands := { top := 0, bottom := 0, ring := 0, grill := 0 } }
  aux : t.ldt.aux = { s.ldt.aux with vent := false, fan := t.ldt.aux.fan }
  fan : FanFollows t
  mask : ∀ l, (load t l).mask = (load s l).mask
  demand : ovenMode s ≠ .service → ∀ l, (load t l).demand = 0

theorem load_writeDemands_mask (d : PerElement) (s : State) (l : LoadId) :
    (load (writeDemands d s) l).mask = (load s l).mask := by
  unfold writeDemands
  split
  · rfl
  · iterate 4 rw [load_setDemand_mask]

/-- A heat demand of 0 leaves every element at 0 outside SERVICE (R71). -/
theorem applyHeat_zero_demand (i : Nat) (outside : ovenMode s ≠ .service) {l : LoadId} (ne : l ≠ .boiler) :
    (load (applyHeat 0 i s).1 l).demand = 0 := by
  have written := writeDemands_demand (s := { s with clc := { s.clc with
    heat := 0, integral := i, demands := splitHeat 0 s.clc.climate.entry } }) (splitHeat 0 s.clc.climate.entry) outside
  obtain ⟨top, bottom, ring, grill⟩ := written
  have zero := splitHeat_zero s.clc.climate.entry
  cases l with
  | top => exact top.trans (by rw [zero])
  | bottom => exact bottom.trans (by rw [zero])
  | ring => exact ring.trans (by rw [zero])
  | grill => exact grill.trans (by rw [zero])
  | boiler => exact absurd rfl ne

/-- The BOILER demand reaches the load record outside SERVICE (R18, R91). -/
theorem formDemand_boiler (outside : ovenMode s ≠ .service) : (load (formDemand s) .boiler).demand = boilerDemand s := by
  have e : formDemand s = setDemand (boilerDemand s) .boiler { s with sgc := { s.sgc with demand := boilerDemand s } } :=
    if_neg outside
  rw [e]
  exact congrArg Load.demand (load_updLoad_same _ _ _)

theorem climateGone_handOver (rest : Resting s) : ClimateGone s (handOver .absent s) := by
  rw [handOver_absent rest]
  have formed := changesOnly_loopFormed (climateGone s)
  have demand : boilerDemand (absentFormed s) = 0 := boilerDemand_resting rest.state
  have hload (l : LoadId) : load (evalFan (restartLoopTimer (formDemand (absentFormed s)))) l
      = load (formDemand (absentFormed s)) l := load_setAux _ _ l
  have before (l : LoadId) : load (absentFormed s) l = load (applyHeat 0 0 (climateGone s)).1 l := by
    rw [show load (absentFormed s) l = load (loopFormed (climateGone s)) l from rfl, load_loopFormed, heatUpdate_gone]
  have aux : (absentFormed s).ldt.aux = { s.ldt.aux with vent := false } := by
    refine (setAux_aux _ _).trans ?_
    have closed : ventValue (climateGone s) = false := rfl
    rw [ventValue_heatUpdate, closed]
    show { (heatUpdate (climateGone s)).1.ldt.aux with vent := false } = _
    rw [(heatUpdate_frame (climateGone s)).2.1]
    rfl
  refine ⟨?_, ?_, ?_, ?_, fanFollows_evalFan _, fun l => ?_, fun outside l => ?_⟩
  · refine (((((changesOnly_clc s _).mono (by decide)).then formed).then (changesOnly_sgc _ _)).then
      (changesOnly_formDemand (absentFormed s))).then (cs := [.clc, .ldt]) ?_
    exact ((changesOnly_clc _ _).mono (by decide)).then (changesOnly_setAux _ _)
  · refine (setAux_sgc _ _).trans ((formDemand_sgc _).trans ?_)
    rw [demand]
    rfl
  · refine (setAux_clc _ _).trans ?_
    have clc : (formDemand (absentFormed s)).clc = (loopFormed (climateGone s)).clc :=
      (changesOnly_formDemand (absentFormed s)) .clc (by decide)
    rw [restartLoopTimer, clc, loopFormed_gone_clc]
    rfl
  · have kept : (restartLoopTimer (formDemand (absentFormed s))).ldt.aux = { s.ldt.aux with vent := false } :=
      (formDemand_aux _).trans aux
    rw [evalFan, setAux_aux, kept]
  · rw [hload, formDemand_mask, before]
    exact load_writeDemands_mask _ _ l
  · have outside' : ovenMode (absentFormed s) ≠ .service := by
      have same : ovenMode (absentFormed s) = ovenMode s :=
        ovenMode_congr (formed .svc (by decide)) (formed .dlu (by decide)) (formed .run (by decide))
      rwa [same]
    have element (k : LoadId) (ne : k ≠ .boiler) : (load (formDemand (absentFormed s)) k).demand = (load (absentFormed s) k).demand := by
      have moved : BoilerMoves (absentFormed s) (formDemand (absentFormed s)) := boiler_formDemand .refl
      exact moved.handOverStands.demands k ne
    rw [hload]
    by_cases ne : l = .boiler
    · rw [ne, formDemand_boiler outside', demand]
    · rw [element l ne, before]
      exact applyHeat_zero_demand (s := climateGone s) 0 outside ne

/-! ## INIT at the run, the boiler and the climate -/

theorem changesOnly_initRun (s : State) : ChangesOnly [.run, .ldt, .par] s (initRun s) :=
  changesOnly_ite (.refl _ s) ((changesOnly_setPause {} s).then (changesOnly_run _ _))

theorem initRun_idle (s : State) : (initRun s).run.state = .idle := by
  obtain ⟨idle, e⟩ | ⟨-, e⟩ := initRun_cases s <;> rw [e]
  · exact idle
  · rfl

/-- An idle part that keeps the pause law holds no pause reason (R153). -/
theorem PauseLaw.idle_empty (h : PauseLaw s) (idle : s.run.state = .idle) : s.run.pause = {} := by
  have out (r : PauseReason) : s.run.pause.has r = false := by
    rw [Bool.eq_false_iff]
    intro stands
    have := h.taken r stands
    rw [idle] at this
    cases r <;> exact absurd this (by decide)
  have host : s.run.pause.host = false := out .host
  have door : s.run.pause.door = false := out .door
  have tank : s.run.pause.tank = false := out .tank
  have probe : s.run.pause.probe = false := out .probe
  have link : s.run.pause.link = false := out .link
  show (⟨s.run.pause.host, s.run.pause.door, s.run.pause.tank, s.run.pause.probe, s.run.pause.link⟩ : PauseSet) = {}
  rw [host, door, tank, probe, link]

/-- The state that INIT enters at the boiler (R104). -/
def initState (s : State) : BoilerState := if s.msu.low.reported = .wet then .draining else .empty

theorem initState_resting (s : State) : initState s = .empty ∨ initState s = .draining := by
  unfold initState; split
  · exact .inr rfl
  · exact .inl rfl

/-- The fields of the steam generator's record that no climate hand-over and no demand writes, but the state and its count. -/
def restedSgc (g : Sgc) :
    Content × Purpose × Option Nat × Bool × StepRequest × Bool × Bool × Bool × Option Nat :=
  (g.content, g.purpose, g.soakedS, g.tankEmpty, g.request, g.served, g.lookAhead, g.thermostat, g.drainCount)

/-- What INIT makes of the steam generator (R104), with no run. -/
structure BoilerInit (s t : State) : Prop where
  only : ChangesOnly [.sgc, .ldt, .par, .run] s t
  run : t.run = s.run
  state : t.sgc.state = initState s
  sgc : restedSgc t.sgc = (if s.msu.low.reported = .wet then .unknown else .none, .idle, .none, false, .none, false, false,
    false, .none)
  aux : t.ldt.aux = { s.ldt.aux with feedPump := false, drainPump := s.msu.low.reported == .wet }
  level : (load t .boiler).mask.level = true
  dryfire : (load t .boiler).mask.dryfire = false
  scale : (load t .boiler).mask.scale = (s.sca.stage == .lock)

theorem boilerInit (idle : s.run.state = .idle) : BoilerInit s (initBoiler s) := by
  have entered : (evalScaleMask { s with sgc := sgcInit s }).sgc = sgcInit s := putReason_sgc _ _ _ _
  have scaled := changesOnly_putReason (s.sca.stage == .lock && ((sgcInit s).purpose == .cook || (sgcInit s).purpose == .idle))
    .scale .boiler { s with sgc := sgcInit s }
  have run : (evalScaleMask { s with sgc := sgcInit s }).run = s.run := scaled .run (by decide)
  have msu : (evalScaleMask { s with sgc := sgcInit s }).msu = s.msu := scaled .msu (by decide)
  have aux : (evalScaleMask { s with sgc := sgcInit s }).ldt.aux = s.ldt.aux := putReason_aux _ _ _ _
  have scale : (load (evalScaleMask { s with sgc := sgcInit s }) .boiler).mask.scale = (s.sca.stage == .lock) :=
    (putReason_has_same _ .scale .boiler _).trans (Bool.and_true _)
  have eq := initBoiler_eq s
  have st : initState s = if s.msu.low.reported = .wet then .draining else .empty := rfl
  rw [← st] at eq
  rw [eq]
  have sgc := formDemand_sgc (boilerEntered (initState s) (evalScaleMask { s with sgc := sgcInit s }))
  rw [← enterBoiler_eq, boilerEntered_sgc, entered, msu] at sgc
  obtain ⟨level, dryfire⟩ := enterBoiler_mask (initState s) (evalScaleMask { s with sgc := sgcInit s })
  refine ⟨?_, ?_, by rw [sgc], ?_, ?_, ?_, ?_, ?_⟩
  · exact (((changesOnly_sgc s _).mono (by decide)).then scaled).then (changesOnly_enterBoiler _ _)
  · rw [enterBoiler_idle _ (by rw [run]; exact idle), run]
  · rw [sgc]
    have count : (if initState s = .draining ∧ s.msu.low.reported = .dry then some 0 else Option.none) = .none :=
      if_neg (by rintro ⟨draining, dry⟩; rw [st, dry] at draining; cases draining)
    rw [restedSgc, count]
    rfl
  · rw [enterBoiler_aux, aux, st]
    cases s.msu.low.reported <;> rfl
  · rw [level]; obtain e | e := initState_resting s <;> rw [e] <;> rfl
  · rw [dryfire]; obtain e | e := initState_resting s <;> rw [e] <;> rfl
  · rw [enterBoiler_eq, formDemand_mask, boilerEntered, load_congr (judgeDegraded_ldt _), setBoilerReasons, ← scale]
    have pumps (k : State) : load (setPumps (initState s) k) .boiler = load k .boiler := load_setAux _ _ _
    refine (putReason_has (r := .dryfire) (q := .scale) (by decide) _ _ _ _).trans
      ((putReason_has (r := .level) (q := .scale) (by decide) _ _ _ _).trans ?_)
    rw [pumps]
    rfl

theorem BoilerInit.resting (h : BoilerInit s t) : Resting t := by
  have sgc := h.sgc
  simp only [restedSgc, Prod.mk.injEq] at sgc
  obtain ⟨-, -, -, -, request, -, lookAhead, -⟩ := sgc
  exact ⟨by rw [h.state]; exact initState_resting s, request, lookAhead⟩

end Sys2Proof.Machine
end

section
/-!
CERTIFICATE. INIT at the service functions, the arbiter and the link, and INIT as a whole (R189).
-/

namespace Sys2Proof.Machine

variable {s t u v : State}

/-! ## INIT at the service functions, the arbiter and the link (R37, R61, R187, R189) -/

/-- A load's record as its forcing is released (R191). -/
def releasedLoad (d : Load) : Load := { d with mask := d.mask.put .forceOff false, demand := 0 }

/-- The service functions' record with nothing forced and no pattern (R189). -/
def releasedSvc (c : Svc) : Svc := { c with forcing := .of fun _ => .none, pattern := .none }

theorem release_eq (s : State) (l : LoadId) : setDemand 0 l (removeReason .forceOff l s) = updLoad releasedLoad l s := by
  unfold setDemand removeReason updLoad
  rw [setLoad_setLoad, load_setLoad, if_pos rfl]
  rfl

theorem startPattern_none_eq (s : State) : startPattern .none s
    = allLoads.foldl (fun u l => setDemand 0 l (removeReason .forceOff l u)) { s with svc := releasedSvc s.svc } := rfl

theorem startPattern_none (s : State) : shell (startPattern .none s) = shell { s with svc := releasedSvc s.svc }
    ∧ ∀ l, load (startPattern .none s) l = releasedLoad (load s l) := by
  have step (u : State) (l : LoadId) : setDemand 0 l (removeReason .forceOff l u) = updLoad releasedLoad l u := release_eq u l
  rw [startPattern_none_eq]
  exact ⟨shell_foldl_updLoad (f := fun _ => releasedLoad) fun u _ => step u,
    fun l => (load_foldl_updLoad (f := fun _ => releasedLoad) (fun u _ => step u) l).trans rfl⟩

/-- A load's record after INIT at the service functions and the arbiter (R37, R189). -/
def initedLoad (service : Bool) (d : Load) : Load :=
  let released := if service then releasedLoad d else d
  initLoad { released with mask := released.mask.put .overload false }

theorem load_removeOverload (s : State) (l : LoadId) : load (removeReasonFrom .overload allLoads s) l
    = { load s l with mask := (load s l).mask.put .overload false } :=
  load_foldl_updLoad (step := fun u l => removeReason .overload l u)
    (f := fun _ d => { d with mask := d.mask.put .overload false }) (fun _ _ _ => rfl) l

/-- INIT at the service functions, the arbiter and the link. -/
def initOuter (s : State) : State := initLink (initArbiter (initService s))

/-- The service functions' record as INIT leaves it (R189). -/
def serviceInited (s : State) : State := { s with svc := if s.svc.service then releasedSvc s.svc else s.svc }

theorem initService_shell (s : State) : shell (initService s) = shell (serviceInited s) := by
  unfold initService serviceInited
  split
  · exact (startPattern_none s).1
  · rfl

theorem load_initService (s : State) (l : LoadId) :
    load (initService s) l = if s.svc.service then releasedLoad (load s l) else load s l := by
  unfold initService
  split
  · exact (startPattern_none s).2 l
  · rfl

theorem load_initLink (s : State) (l : LoadId) : load (initLink s) l = load s l := rfl

theorem load_initOuter (s : State) (l : LoadId) : load (initOuter s) l = initedLoad s.svc.service (load s l) := by
  rw [initOuter, load_initLink, load_initArbiter, load_removeOverload,
    load_initService]
  rfl

theorem shell_removeReasonFrom (r : Reason) (s : State) : shell (removeReasonFrom r allLoads s) = shell s :=
  removeReasonFrom_blocks (view := shell) shell_updLoad r allLoads s

/-- What INIT's outer blocks leave of every record but the loads'. -/
structure OuterInit (s t : State) : Prop where
  only : ChangesOnly [.lif, .ldt, .par, .svc] s t
  par : t.par = { s.par with frame := t.par.frame }
  frame : t.par.frame.state = (if s.par.frame.state = .firing then .waiting else s.par.frame.state)
    ∧ t.par.frame.grid = emptyGrid ∧ ∀ l, t.par.frame.withdrawn.get l = false
  svc : t.svc = if s.svc.service then releasedSvc s.svc else s.svc
  aux : t.ldt.aux = s.ldt.aux
  meas : t.ldt.measA = .none ∧ t.ldt.measB = .none
  lif : t.lif = { s.lif with notices := {}, pendingDef := .none }

theorem outerInit (s : State) : OuterInit s (initOuter s) := by
  have shelled : shell (loadsCleared (removeReasonFrom .overload allLoads (initService s)))
      = shell (serviceInited s) := (shell_loadsCleared _).trans ((shell_removeReasonFrom .overload _).trans (initService_shell s))
  have eq : initOuter s = initLink (frameCleared (loadsCleared (removeReasonFrom .overload allLoads (initService s)))) := by
    rw [initOuter, initArbiter_eq]
  rw [eq]
  generalize loadsCleared (removeReasonFrom .overload allLoads (initService s)) = u at shelled ⊢
  have par : u.par = s.par := shell_par (s := serviceInited s) shelled
  have lif : u.lif = s.lif := view_of_shell (s := serviceInited s) State.lif shelled
  have svc : u.svc = if s.svc.service then releasedSvc s.svc else s.svc :=
    view_of_shell (s := serviceInited s) State.svc shelled
  have aux : u.ldt.aux = s.ldt.aux :=
    view_of_shell (s := serviceInited s) (fun w : State => w.ldt.aux) shelled
  refine ⟨fun b hb => ?_, ?_, ?_, svc, aux, ⟨rfl, rfl⟩, ?_⟩
  · cases b
    case lif | ldt | par | svc => exact absurd hb (by decide)
    case msu => exact view_of_shell (s := serviceInited s) (t := u) State.msu shelled
    case clc => exact view_of_shell (s := serviceInited s) (t := u) State.clc shelled
    case sgc => exact view_of_shell (s := serviceInited s) (t := u) State.sgc shelled
    case sca => exact view_of_shell (s := serviceInited s) (t := u) State.sca shelled
    case pst => exact view_of_shell (s := serviceInited s) (t := u) State.pst shelled
    case run => exact view_of_shell (s := serviceInited s) (t := u) State.run shelled
    case dlu => exact view_of_shell (s := serviceInited s) (t := u) State.dlu shelled
  · rw [← par]; rfl
  · rw [← par]; exact ⟨rfl, rfl, fun l => by cases l <;> rfl⟩
  · rw [← lif]; rfl

/-! ## INIT as a whole -/

/-- What INIT makes of the run, the boiler and the climate, with the oven mode noted. -/
structure InnerInit (s t : State) : Prop where
  only : ChangesOnly [.lif, .run, .sgc, .clc, .ldt, .par] s t
  run : t.run = if s.run.state = .idle then s.run else abortedRun s.run
  state : t.sgc.state = initState s
  sgc : restedSgc t.sgc = (if s.msu.low.reported = .wet then .unknown else .none, .idle, .none, false, .none, false, false,
    false, .none)
  hand : handed t.sgc = (0, 0, false)
  formed : t.sgc.demand = 0
  clc : t.clc = { s.clc with climate := .absent, loopTimer := .none, heat := 0, integral := 0, humid := 0,
                             demands := { top := 0, bottom := 0, ring := 0, grill := 0 } }
  aux : t.ldt.aux = { s.ldt.aux with feedPump := false, drainPump := s.msu.low.reported == .wet, vent := false,
                                     fan := t.ldt.aux.fan, lamp := t.ldt.aux.lamp }
  fan : FanFollows t
  boiler : (load t .boiler).mask.level = true ∧ (load t .boiler).mask.dryfire = false
    ∧ (load t .boiler).mask.scale = (s.sca.stage == .lock)
  demand : ovenMode s ≠ .service → ∀ l, (load t l).demand = 0

theorem innerInit (s : State) : InnerInit s (initInner s) := by
  have ran := changesOnly_initRun s
  have boiler := boilerInit (initRun_idle s)
  have climate := climateGone_handOver boiler.resting
  have n := noteMode_noted (ovenMode s) (handOver .absent (initBoiler (initRun s)))
  have noted := changesOnly_noteMode (ovenMode s) (handOver .absent (initBoiler (initRun s)))
  have msu : (initRun s).msu = s.msu := ran .msu (by decide)
  have sca : (initRun s).sca = s.sca := ran .sca (by decide)
  have idleAux : (initRun s).ldt.aux = s.ldt.aux := by
    obtain ⟨-, e⟩ | ⟨-, e⟩ := initRun_cases s <;> rw [e]
    exact setPause_aux {} s
  have run : (initRun s).run = if s.run.state = .idle then s.run else abortedRun s.run := by
    obtain ⟨idle, e⟩ | ⟨busy, e⟩ := initRun_cases s <;> rw [e]
    · rw [if_pos idle]
    · rw [if_neg busy]
  have init : initState (initRun s) = initState s := by rw [initState, msu]; rfl
  rw [show initInner s = noteMode (ovenMode s) (handOver .absent (initBoiler (initRun s))) from rfl]
  generalize noteMode (ovenMode s) (handOver .absent (initBoiler (initRun s))) = t at n noted ⊢
  generalize handOver .absent (initBoiler (initRun s)) = c at climate n noted
  generalize initBoiler (initRun s) = b at boiler climate
  generalize initRun s = a at *
  have mask (l : LoadId) : (load t l).mask = (load b l).mask := (congrArg Load.mask (n.load l)).trans (climate.mask l)
  have sgc := n.sgc.trans climate.sgc
  refine ⟨?_, ?_, ?_, ?_, by rw [sgc]; rfl, by rw [sgc], ?_, ?_, ?_, ?_, fun outside l => ?_⟩
  · exact (((ran.mono (cs := [.lif, .run, .sgc, .clc, .ldt, .par]) (by decide)).then boiler.only).then climate.only).then noted
  · rw [n.run, climate.only .run (by decide), boiler.run, run]
  · rw [sgc, ← init]
    exact boiler.state
  · rw [sgc, ← msu]
    exact boiler.sgc
  · rw [n.clc, climate.clc, boiler.only .clc (by decide), ran .clc (by decide)]
  · rw [n.aux, climate.aux, boiler.aux, idleAux, msu]
  · have value : fanValue t = fanValue c := by simp only [fanValue, n.dlu, n.clc, n.msu]
    rw [FanFollows, value, ← climate.fan, n.aux]
  · rw [mask]
    exact ⟨boiler.level, boiler.dryfire, by rw [boiler.scale, sca]⟩
  · rw [n.load]
    refine climate.demand (fun service => outside ?_) l
    have svc : b.svc = s.svc := (boiler.only .svc (by decide)).trans (ran .svc (by decide))
    unfold ovenMode at service ⊢
    rw [svc] at service
    split_ifs at service ⊢
    rfl

/-- INIT keeps of a load's masks what the arbiter, SET_LOAD and the door and limit unit own (R37). -/
theorem initInner_masks (s : State) (l : LoadId) : (load (initInner s) l).mask.door = (load s l).mask.door
    ∧ (load (initInner s) l).mask.supply = (load s l).mask.supply
    ∧ (load (initInner s) l).mask.faultMode = (load s l).mask.faultMode
    ∧ (load (initInner s) l).mask.health = (load s l).mask.health := by
  have writes : Writes s (initInner s) :=
    writes_noteMode (writes_handOver (writes_initBoiler (writes_initRun .refl)) .absent fun _ => weights_absent) _
  have marks : SameMarks s (initInner s) := writes.keeps (P := SameMarks s) (fun u w m h => by
    obtain ⟨state, same⟩ := sameMarks_write m
    exact ⟨state.trans h.1, fun l => ⟨(same l).1.trans (h.2 l).1, (same l).2.1.trans (h.2 l).2.1,
      (same l).2.2.trans (h.2 l).2.2⟩⟩) ⟨rfl, fun _ => ⟨rfl, rfl, rfl⟩⟩
  obtain ⟨door, fault⟩ := (goesOn_initInner s).masks l
  exact ⟨door, (marks.2 l).1, fault, (marks.2 l).2.1⟩

theorem initInner_fixed (s : State) : fixedView (initInner s) = fixedView s :=
  (writes_noteMode (writes_handOver (writes_initBoiler (writes_initRun .refl)) .absent fun _ => weights_absent) _).fixed

/-! ### The clauses of the obligation -/

theorem initAll_outer (s : State) : initAll s = initOuter (initInner s) := initAll_eq s

theorem initAll_only (s : State) : ChangesOnly [.lif, .run, .sgc, .clc, .ldt, .par, .svc] s (initAll s) := by
  rw [initAll_outer]
  exact ((innerInit s).only.mono (by decide)).then (outerInit _).only

theorem initAll_run (s : State) : (initAll s).run = if s.run.state = .idle then s.run else abortedRun s.run := by
  rw [initAll_outer, (outerInit _).only .run (by decide), (innerInit s).run]

theorem initAll_svc (s : State) : (initAll s).svc = if s.svc.service then releasedSvc s.svc else s.svc := by
  have svc : (initInner s).svc = s.svc := (innerInit s).only .svc (by decide)
  rw [initAll_outer, (outerInit _).svc, svc]

theorem load_initAll (s : State) (l : LoadId) : load (initAll s) l = initedLoad s.svc.service (load (initInner s) l) := by
  have svc : (initInner s).svc = s.svc := (innerInit s).only .svc (by decide)
  rw [initAll_outer, load_initOuter, svc]

theorem initedLoad_mask (b : Bool) (d : Load) : (initedLoad b d).mask
    = { d.mask with overload := false, forceOff := if b then false else d.mask.forceOff } := by cases b <;> rfl

theorem initedLoad_demand (b : Bool) (d : Load) : (initedLoad b d).demand = if b then 0 else d.demand := by cases b <;> rfl

theorem initedLoad_rest (b : Bool) (d : Load) : (initedLoad b d).served = 0 ∧ (initedLoad b d).shortfall = 0
    ∧ (initedLoad b d).on = false ∧ (initedLoad b d).health = d.health ∧ (initedLoad b d).measuredW = d.measuredW
    ∧ (initedLoad b d).verifyDue = d.verifyDue ∧ (initedLoad b d).ratedW = d.ratedW ∧ (initedLoad b d).cls = d.cls
    ∧ (initedLoad b d).leg = d.leg := by cases b <;> exact ⟨rfl, rfl, rfl, rfl, rfl, rfl, rfl, rfl, rfl⟩

theorem ovenMode_ne_service (h : ¬ s.svc.service = true) : ovenMode s ≠ .service := by
  unfold ovenMode
  rw [if_neg h]
  split_ifs <;> decide

theorem ovenMode_idle (idle : s.run.state = .idle) : (ovenMode s == .running) = false := by
  unfold ovenMode
  rw [idle]
  split_ifs <;> first | rfl | contradiction

/-- The run is idle, holds no pause and masks nothing (R165). -/
theorem init_run (pause : PauseLaw s) : (initAll s).run.state = .idle ∧ (initAll s).run.pause = {}
    ∧ (∀ l, (load (initAll s) l).mask.pause = false)
    ∧ (s.run.state ≠ .idle → (initAll s).run = { s.run with
        state := .idle, pause := {}, awaiting := .none, latched := {}, endingCause := .none, outcome := some .aborted })
    ∧ (s.run.state = .idle → (initAll s).run = s.run) := by
  have run := initAll_run s
  have empty : (initAll s).run.pause = {} := by
    rw [run]
    split
    · exact pause.idle_empty ‹_›
    · rfl
  refine ⟨?_, empty, fun l => ?_, fun busy => by rw [run, if_neg busy]; rfl, fun idle => by rw [run, if_pos idle]⟩
  · rw [run]
    split
    · assumption
    · rfl
  · rw [((keeps_initAll s).pause pause).masks l, empty]
    rfl

/-- The steam generator starts anew from LOW's level (R104). -/
theorem init_boiler (s : State) : (initAll s).sgc.state = (if s.msu.low.reported = .wet then .draining else .empty)
    ∧ restedSgc (initAll s).sgc = (if s.msu.low.reported = .wet then .unknown else .none, .idle, .none, false, .none, false,
        false, false, .none)
    ∧ handed (initAll s).sgc = (0, 0, false) ∧ (initAll s).sgc.demand = 0 ∧ (initAll s).ldt.aux.feedPump = false
    ∧ (initAll s).ldt.aux.drainPump = (s.msu.low.reported == .wet)
    ∧ (load (initAll s) .boiler).mask.level = true ∧ (load (initAll s) .boiler).mask.dryfire = false
    ∧ (load (initAll s) .boiler).mask.scale = (s.sca.stage == .lock) := by
  have inner := innerInit s
  have sgc : (initAll s).sgc = (initInner s).sgc := by rw [initAll_outer]; exact (outerInit _).only .sgc (by decide)
  have aux : (initAll s).ldt.aux = (initInner s).ldt.aux := by rw [initAll_outer]; exact (outerInit _).aux
  rw [sgc, aux, load_initAll, initedLoad_mask, inner.aux]
  generalize initInner s = i at inner ⊢
  exact ⟨inner.state, inner.sgc, inner.hand, inner.formed, rfl, rfl, inner.boiler⟩

/-- No climate stands, and FAN and VENT follow (R80). -/
theorem init_climate (s : State) : ((initAll s).clc.climate.kind = .none ∧ (initAll s).clc.heat = 0
    ∧ (initAll s).clc.integral = 0 ∧ (initAll s).clc.humid = 0 ∧ (initAll s).clc.loopTimer = .none
    ∧ (initAll s).clc.demands = { top := 0, bottom := 0, ring := 0, grill := 0 } ∧ (initAll s).clc.table = s.clc.table
    ∧ (initAll s).clc.loop = s.clc.loop ∧ (initAll s).ldt.aux.vent = false
    ∧ (initAll s).ldt.aux.coolFan = s.ldt.aux.coolFan
    ∧ (s.dlu.door = .opened → (initAll s).ldt.aux.fan = .off)
    ∧ (s.dlu.door ≠ .opened → (∃ T, s.msu.cavity.filtered = some T ∧ 600 < T) → (initAll s).ldt.aux.fan = .low)
    ∧ ((∀ T, s.msu.cavity.filtered = some T → T ≤ 600) → (initAll s).ldt.aux.fan = .off)) := by
  have inner := innerInit s
  have clc : (initAll s).clc = (initInner s).clc := by rw [initAll_outer]; exact (outerInit _).only .clc (by decide)
  have aux : (initAll s).ldt.aux = (initInner s).ldt.aux := by rw [initAll_outer]; exact (outerInit _).aux
  have fan : (initInner s).ldt.aux.fan = fanValue (initInner s) := inner.fan
  have msu : (initInner s).msu = s.msu := inner.only .msu (by decide)
  have dlu : (initInner s).dlu = s.dlu := inner.only .dlu (by decide)
  have none : (initInner s).clc.climate.kind = .none := by rw [inner.clc]; rfl
  rw [fanValue, dlu, none, msu, if_neg (show ¬ ClimateKind.none ≠ .none from not_not.2 rfl)] at fan
  rw [clc, aux]
  refine ⟨none, ?_, ?_, ?_, ?_, ?_, ?_, ?_, ?_, ?_, fun opened => ?_, fun shut hot => ?_, fun cool => ?_⟩
  iterate 7 rw [inner.clc]
  · rw [inner.aux]
  · rw [inner.aux]
  · rw [fan, if_pos opened]
  · obtain ⟨T, present, hot⟩ := hot
    rw [fan, if_neg shut, present]
    exact if_pos hot
  · rw [fan]
    split
    · rfl
    · split
      · rename_i T present
        exact if_neg (not_lt.2 (cool T present))
      · rfl

/-- The frame restarts empty, and the configuration of the arbiter stands (R61). -/
theorem init_arbiter (s : State) : (initAll s).par = { s.par with frame := (initAll s).par.frame }
    ∧ (initAll s).par.frame.state = (if s.par.frame.state = .firing then .waiting else s.par.frame.state)
    ∧ (initAll s).par.frame.grid = emptyGrid ∧ ∀ l, (initAll s).par.frame.withdrawn.get l = false := by
  have outer := outerInit (initInner s)
  have fixed := initInner_fixed s
  rw [initAll_outer]
  generalize initOuter (initInner s) = t at outer ⊢
  generalize initInner s = i at outer fixed
  have frame : i.par.frame.state = s.par.frame.state := congrArg (fun v => v.frame.1) fixed
  have par := congrArg FixedView.par fixed
  simp only [fixedView, InnerView.fixed, innerView, Prod.mk.injEq] at par
  obtain ⟨supply, placement, lists, policies⟩ := par
  refine ⟨?_, by rw [← frame]; exact outer.frame.1, outer.frame.2⟩
  refine outer.par.trans ?_
  dsimp only
  rw [supply, placement, lists, policies]

/-- What INIT leaves of a load's record (R37, R189). -/
theorem init_load (s : State) (l : LoadId) :
    ((load (initAll s) l).demand = 0 ∧ (load (initAll s) l).mask.door = (load s l).mask.door
      ∧ (load (initAll s) l).mask.supply = (load s l).mask.supply
      ∧ (load (initAll s) l).mask.faultMode = (load s l).mask.faultMode)
    ∧ ((load (initAll s) l).served = 0 ∧ (load (initAll s) l).shortfall = 0 ∧ (load (initAll s) l).on = false
      ∧ (load (initAll s) l).mask.overload = false
      ∧ (load (initAll s) l).health = (load s l).health ∧ (load (initAll s) l).measuredW = (load s l).measuredW
      ∧ (load (initAll s) l).verifyDue = (load s l).verifyDue
      ∧ (load (initAll s) l).mask.health = (load s l).mask.health
      ∧ (load (initAll s) l).ratedW = (load s l).ratedW ∧ (load (initAll s) l).cls = (load s l).cls
      ∧ (load (initAll s) l).leg = (load s l).leg)
    ∧ (s.svc.service = true → (load (initAll s) l).mask.forceOff = false) := by
  obtain ⟨door, supply, fault, marked⟩ := initInner_masks s l
  have fixed := fixed_load (initInner_fixed s) l
  simp only [fixedLoad, Prod.mk.injEq] at fixed
  obtain ⟨rated, cls, leg, health, measuredW, verifyDue, -⟩ := fixed
  rw [load_initAll]
  obtain ⟨served, shortfall, off, health', measuredW', verifyDue', rated', cls', leg'⟩ :=
    initedLoad_rest s.svc.service (load (initInner s) l)
  rw [initedLoad_mask]
  refine ⟨⟨?_, door, supply, fault⟩, ⟨served, shortfall, off, rfl, health'.trans health, measuredW'.trans measuredW,
    verifyDue'.trans verifyDue, marked, rated'.trans rated, cls'.trans cls, leg'.trans leg⟩, fun service => if_pos service⟩
  rw [initedLoad_demand]
  split
  · rfl
  · exact (innerInit s).demand (ovenMode_ne_service ‹_›) l

theorem init_lif (s : State) : (initAll s).lif.notices = {} ∧ (initAll s).lif.pendingDef = .none := by
  rw [initAll_outer, (outerInit _).lif]
  exact ⟨rfl, rfl⟩

theorem init_meas (s : State) : (initAll s).ldt.measA = .none ∧ (initAll s).ldt.measB = .none := by
  rw [initAll_outer]
  exact (outerInit _).meas

/-- Settles O38: each block's part of INIT in turn. -/
theorem initRestartsTheBlocks : Obligations.InitRestartsTheBlocks := by
  intro s hears pause
  refine ⟨requestRow .init s, rfl, ?_⟩
  rw [row_accepts (r := .init) (u := initAll { s with lif := heardLif .init s }) hears (by cases ovenMode s <;> rfl) rfl]
  have kept := keeps_initAll { s with lif := heardLif .init s }
  have answered : Answered .init .ok [] (respond (requestCode .init) (accept [] (initAll { s with lif := heardLif .init s }))) :=
    answered_respond (kept.silence (silenceFor_heard hears .init)) (kept.heard hears.2)
  have only := changesOnly_row .init (code := requestCode .init) (a := accept [] (initAll { s with lif := heardLif .init s }))
    (by decide) (initAll_only { s with lif := heardLif .init s })
  obtain ⟨notices, pending⟩ := init_lif { s with lif := heardLif .init s }
  have run := init_run (s := { s with lif := heardLif .init s }) ⟨pause.masks, pause.taken⟩
  obtain ⟨state, rested, hand, formed, pumps⟩ := init_boiler { s with lif := heardLif .init s }
  have climate := init_climate { s with lif := heardLif .init s }
  have arbiter := init_arbiter { s with lif := heardLif .init s }
  have loads := init_load { s with lif := heardLif .init s }
  have svc := initAll_svc { s with lif := heardLif .init s }
  have meas := init_meas { s with lif := heardLif .init s }
  generalize initAll { s with lif := heardLif .init s } = u at *
  simp only [restedSgc, Prod.mk.injEq] at rested
  simp only [handed, Prod.mk.injEq] at hand
  obtain ⟨content, purpose, soaked, tank, request, served, lookAhead, thermostat, count⟩ := rested
  obtain ⟨share, hum, need⟩ := hand
  obtain ⟨-, -, silent, silence, -⟩ := answered
  refine ⟨⟨rfl, rfl, silent, silence, rfl⟩, only, notices, pending, run,
    ⟨state, content, purpose, soaked, tank, request, served, lookAhead, share, hum, need, thermostat, count, formed, pumps⟩,
    climate, arbiter, fun _ => ⟨silence.trans (ovenMode_idle run.1), silent⟩, fun l => (loads l).1, fun outside => ?_,
    fun l => (loads l).2.1, meas, fun service => ⟨?_, fun l => ⟨?_, (loads l).1.1, (loads l).2.2 service⟩⟩⟩
  · exact svc.trans (if_neg (by simp [outside]))
  · exact congrArg Svc.pattern (svc.trans (if_pos service))
  · exact (congrArg (fun c : Svc => c.forcing.get l) (svc.trans (if_pos service))).trans (PerLoad.get_of _ l)

end Sys2Proof.Machine
end

section
/-!
SUPPORT. The end of a slot: what a judgement and an overload check make of the load records, the frame and the notices
(R26 to R29, R32, R33, R58).
-/

namespace Sys2Proof.Machine

variable {s t u v : State} {o : Option Measurement} {l : LoadId}

/-- The frame record stands but for the withdrawn loads (R57). -/
def FrameStands (s t : State) : Prop :=
  t.par = { s.par with frame := { s.par.frame with withdrawn := t.par.frame.withdrawn } }

theorem FrameStands.trans (h : FrameStands s u) (k : FrameStands u v) : FrameStands s v := by
  rw [FrameStands] at h k ⊢
  rw [k, h]

theorem FrameStands.inForce (h : FrameStands s t) : t.par.frame.inForce = s.par.frame.inForce := by rw [h]

theorem FrameStands.state (h : FrameStands s t) : t.par.frame.state = s.par.frame.state := by rw [h]

theorem frameStands_withdraw (l : LoadId) (s : State) : FrameStands s (withdraw l s) := by
  unfold withdraw
  split <;> rfl

theorem withdraw_get_firing (firing : s.par.frame.state = .firing) (l k : LoadId) :
    (withdraw l s).par.frame.withdrawn.get k = (s.par.frame.withdrawn.get k || (k == l)) := by
  unfold withdraw
  rw [firing]
  dsimp only
  rw [PerLoad.get_set]
  by_cases e : k = l
  · rw [if_pos e, beq_iff_eq.2 e, Bool.or_true]
  · rw [if_neg e, beq_false_of_ne e, Bool.or_false]

theorem frameStands_addReason (r : Reason) (l : LoadId) (s : State) : FrameStands s (addReason r l s) := by
  unfold addReason
  split
  · rfl
  · exact FrameStands.trans (u := updLoad (fun d => { d with mask := d.mask.put r true, on := false }) l s) rfl
      (FrameStands.trans rfl (frameStands_withdraw l _))

/-- In a FIRING frame a reason that was not there withdraws its load, and no other (R57). -/
theorem addReason_withdrawn_firing (firing : s.par.frame.state = .firing) (r : Reason) (l k : LoadId) :
    (addReason r l s).par.frame.withdrawn.get k
      = (s.par.frame.withdrawn.get k || ((k == l) && !(load s l).mask.has r)) := by
  unfold addReason
  split
  · rename_i has
    rw [has, Bool.not_true, Bool.and_false, Bool.or_false]
  · rename_i new
    rw [Bool.not_eq_true] at new
    rw [new, Bool.not_false, Bool.and_true]
    exact withdraw_get_firing (by exact firing) l k

/-! ## One judgement (R28, R29) -/

/-- A load's record as a judged health marks it (R29). -/
def markedLoad (d : Load) : Load := if outOfUse d.health then { d with mask := d.mask.put .health true, on := false } else d

/-- A load's record after one judgement. -/
def judgedRecord (s : State) (o : Option Measurement) (l : LoadId) (d : Load) : Load :=
  match o with
  | .none => d
  | some m => if l = m.load ∧ stands s m = true then markedLoad (judgedLoad s.par.frame.inForce.slotHc m d) else d

/-- Whether a judgement is reported by LOAD_FAULT (R29). -/
def judgementReported (s : State) (o : Option Measurement) : Bool :=
  match o with
  | .none => false
  | some m => stands s m && reported (judgedLoad s.par.frame.inForce.slotHc m (load s m.load)).health

/-- All that a judgement does. -/
structure JudgedOnce (o : Option Measurement) (s t : State) : Prop where
  only : ChangesOnly [.ldt, .par, .lif] s t
  frame : FrameStands s t
  load : ∀ l, Machine.load t l = judgedRecord s o l (Machine.load s l)
  withdrawn : ∀ l, t.par.frame.withdrawn.get l
    = (s.par.frame.withdrawn.get l || ((Machine.load t l).mask.health && !(Machine.load s l).mask.health))
  lif : t.lif = { s.lif with notices := { s.lif.notices with
    loadFault := s.lif.notices.loadFault || judgementReported s o } }

theorem judgedOnce_none (h : ∀ m, o = some m → stands s m = false) : JudgedOnce o s s := by
  refine ⟨.refl _ s, rfl, fun l => ?_, fun l => ?_, ?_⟩
  · cases o with
    | none => rfl
    | some m => simp [judgedRecord, h m rfl]
  · cases (load s l).mask.health <;> simp
  · have none : judgementReported s o = false := by
      cases o with
      | none => rfl
      | some m => simp [judgementReported, h m rfl]
    rw [none, Bool.or_false]

/-- HEALTH and LOAD_FAULT by the band, on a load that does not carry HEALTH (R29). -/
theorem load_markHealth_clear {h : Health} (clear : (load s l).mask.health = false) (k : LoadId) :
    load (markHealth h l s) k = if k = l ∧ outOfUse h then { load s l with mask := (load s l).mask.put .health true, on := false }
      else load s k := by
  have new : (load s l).mask.has .health = false := clear
  rw [load_markHealth]
  by_cases out : outOfUse h = true
  · rw [if_pos out, load_addReason, out, new]
    simp
  · rw [if_neg out, if_neg fun c => out c.2]

theorem markHealth_withdrawn {h : Health} (firing : s.par.frame.state = .firing) (clear : (load s l).mask.health = false)
    (k : LoadId) : (markHealth h l s).par.frame.withdrawn.get k
      = (s.par.frame.withdrawn.get k || ((k == l) && outOfUse h)) := by
  have new : (load s l).mask.has .health = false := clear
  unfold markHealth
  split
  · rename_i out
    rw [raise_par, addReason_withdrawn_firing firing, new, out]
    rfl
  · rename_i out
    rw [Bool.not_eq_true] at out
    rw [out, Bool.and_false, Bool.or_false]
    split <;> rfl

theorem markHealth_lif (h : Health) (l : LoadId) (s : State) : (markHealth h l s).lif = { s.lif with notices := { s.lif.notices with
    loadFault := s.lif.notices.loadFault || reported h } } := by
  have add : (addReason .health l s).lif = s.lif := (putReason_lif true .health l s).1
  unfold markHealth
  by_cases out : outOfUse h = true
  · have told : reported h = true := by simp [reported, out]
    rw [if_pos out, told, Bool.or_true]
    show { (addReason .health l s).lif with notices := (addReason .health l s).lif.notices.add .loadFault } = _
    rw [add]
    rfl
  · rw [if_neg out]
    by_cases told : reported h = true
    · rw [if_pos told, told, Bool.or_true]
      rfl
    · rw [if_neg told, Bool.eq_false_iff.2 told, Bool.or_false]

theorem frameStands_markHealth (h : Health) (l : LoadId) (s : State) : FrameStands s (markHealth h l s) := by
  unfold markHealth
  split
  · exact frameStands_addReason .health l s
  · split <;> rfl

theorem changesOnly_markHealth (h : Health) (l : LoadId) (s : State) : ChangesOnly [.ldt, .par, .lif] s (markHealth h l s) :=
  changesOnly_ite (((changesOnly_putReason true .health l s).mono (by decide)).then (changesOnly_lif _ _))
    (changesOnly_ite ((changesOnly_lif _ _).mono (by decide)) (.refl _ s))

theorem judgedOnce_judgeLoad (firing : s.par.frame.state = .firing)
    (clear : ∀ m, o = some m → stands s m = true → (load s m.load).mask.health = false) : JudgedOnce o s (judgeLoad o s) := by
  cases o with
  | none => exact judgedOnce_none (fun m e => by cases e)
  | some m =>
    cases standing : stands s m with
    | false =>
      rw [judgeLoad_of_not_stands standing]
      exact judgedOnce_none fun k e => by cases e; exact standing
    | true =>
      have free := clear m rfl standing
      rw [judgeLoad_of_stands standing]
      have own : (load (updLoad (judgedLoad s.par.frame.inForce.slotHc m) m.load s) m.load)
          = judgedLoad s.par.frame.inForce.slotHc m (load s m.load) := load_updLoad_same _ _ _
      have loads (l : LoadId) : load (markHealth (judgedLoad s.par.frame.inForce.slotHc m (load s m.load)).health m.load
          (updLoad (judgedLoad s.par.frame.inForce.slotHc m) m.load s)) l = judgedRecord s (some m) l (load s l) := by
        rw [load_markHealth_clear (by rw [own]; exact free)]
        unfold judgedRecord markedLoad
        dsimp only
        by_cases e : l = m.load
        · subst e
          simp only [own, standing, true_and, and_self, if_true]
        · rw [if_neg fun c => e c.1, if_neg fun c => e c.1, load_updLoad_other _ _ e]
      refine ⟨?_, ?_, loads, fun l => ?_, ?_⟩
      · exact ((changesOnly_updLoad _ m.load s).mono (by decide)).then (changesOnly_markHealth _ _ _)
      · exact FrameStands.trans (u := updLoad (judgedLoad s.par.frame.inForce.slotHc m) m.load s) rfl (frameStands_markHealth _ _ _)
      · rw [loads, markHealth_withdrawn (s := updLoad (judgedLoad s.par.frame.inForce.slotHc m) m.load s) firing
          (by rw [own]; exact free)]
        refine congrArg (s.par.frame.withdrawn.get l || ·) ?_
        unfold judgedRecord markedLoad
        dsimp only
        by_cases e : l = m.load
        · subst e
          rw [if_pos ⟨rfl, standing⟩, free, beq_self_eq_true, Bool.true_and, Bool.not_false, Bool.and_true]
          split
          · rename_i out; rw [out]; rfl
          · rename_i out
            rw [Bool.not_eq_true] at out
            rw [out]
            exact free.symm
        · rw [if_neg fun c => e c.1, beq_false_of_ne e, Bool.false_and]
          cases (load s l).mask.health <;> rfl
      · rw [markHealth_lif, judgementReported, standing]
        rfl

end Sys2Proof.Machine
end

section
/-!
CERTIFICATE. The slot's end: both judgements, the overload check of each leg, and the slot that follows (R25 to R33, R41, R43, R57).
-/

namespace Sys2Proof.Machine

variable {s t u v : State} {f g : LoadId → Bool} {a b : Bool}

/-! ## Both judgements (R25, R28, R29) -/

/-- What closing and judging the measurements does. -/
structure SlotJudged (s t : State) : Prop where
  only : ChangesOnly [.ldt, .par, .lif] s t
  frame : FrameStands s t
  judged : ∀ g m, legMeasurement s g = some m → stands s m = true →
    load t m.load = markedLoad (judgedLoad s.par.frame.inForce.slotHc m (load s m.load))
  rest : ∀ l, (∀ g m, legMeasurement s g = some m → m.load = l → stands s m = false) → load t l = load s l
  withdrawn : ∀ l, t.par.frame.withdrawn.get l
    = (s.par.frame.withdrawn.get l || ((load t l).mask.health && !(load s l).mask.health))
  lif : t.lif = { s.lif with notices := { s.lif.notices with
    loadFault := s.lif.notices.loadFault || judgementReported s (legMeasurement s .a)
      || judgementReported s (legMeasurement s .b) } }

theorem judgedRecord_other {o : Option Measurement} {l : LoadId} (h : ∀ m, o = some m → m.load = l → stands s m = false)
    (d : Load) : judgedRecord s o l d = d := by
  cases o with
  | none => rfl
  | some m => exact if_neg fun c => by rw [h m rfl c.1.symm] at c; exact absurd c.2 (by decide)

theorem judgedRecord_own {m : Measurement} (standing : stands s m = true) (d : Load) :
    judgedRecord s (some m) m.load d = markedLoad (judgedLoad s.par.frame.inForce.slotHc m d) := if_pos ⟨rfl, standing⟩

theorem stands_congr (h : t.par.frame.inForce = s.par.frame.inForce) (m : Measurement) : stands t m = stands s m := by
  simp only [stands, h]

theorem judgedRecord_congr (h : t.par.frame.inForce = s.par.frame.inForce) (o : Option Measurement) (l : LoadId) (d : Load) :
    judgedRecord t o l d = judgedRecord s o l d := by
  cases o with
  | none => rfl
  | some m => simp only [judgedRecord, stands_congr h, h]

theorem judgementReported_congr {o : Option Measurement} (h : t.par.frame.inForce = s.par.frame.inForce)
    (same : ∀ m, o = some m → load t m.load = load s m.load) : judgementReported t o = judgementReported s o := by
  cases o with
  | none => rfl
  | some m => simp only [judgementReported, stands_congr h, h, same m rfl]

/-- A load that either stage leaves alone is withdrawn by the other alone. -/
theorem withdrawn_twice {w x h₀ h₁ h₂ : Bool} (first : x = (w || (h₁ && !h₀))) (once : h₁ = h₀ ∨ h₂ = h₁) :
    (x || (h₂ && !h₁)) = (w || (h₂ && !h₀)) := by
  subst first
  obtain e | e := once
  · rw [e, Bool.and_not_self, Bool.or_false]
  · rw [e, Bool.and_not_self, Bool.or_false]

theorem slotJudged (firing : s.par.frame.state = .firing) (law : FiringLaw s) (solo : SoloLaw s) :
    SlotJudged s (closeMeasurements s) := by
  have free (g : Leg) (m : Measurement) (hm : legMeasurement s g = some m) (standing : stands s m = true) :
      (load s m.load).mask.health = false := by
    simp only [stands, Bool.and_eq_true, Bool.not_eq_true'] at standing
    exact (Mask.isEmpty_iff _).1 (solo.standing g m hm standing.1).1 .health
  have apart {x y : Measurement} (hx : s.ldt.measA = some x) (hy : s.ldt.measB = some y) : x.load ≠ y.load :=
    measured_apart law solo hx hy
  have first := judgedOnce_judgeLoad (s := measClosed s) (o := s.ldt.measA) firing fun m hm => free .a m hm
  rw [closeMeasurements_eq]
  generalize judgeLoad s.ldt.measA (measClosed s) = u at first ⊢
  have inForce : u.par.frame.inForce = s.par.frame.inForce := first.frame.inForce
  have loadU (l : LoadId) : load u l = judgedRecord s s.ldt.measA l (load s l) := first.load l
  have keptB (m : Measurement) (hm : s.ldt.measB = some m) : load u m.load = load s m.load := by
    rw [loadU]
    exact judgedRecord_other (fun x hx e => absurd e (apart hx hm)) _
  have second := judgedOnce_judgeLoad (s := u) (o := s.ldt.measB) (first.frame.state.trans firing) fun m hm standing => by
    rw [keptB m hm]
    exact free .b m hm ((stands_congr inForce m).symm.trans standing)
  generalize judgeLoad s.ldt.measB u = t at second ⊢
  have loadT (l : LoadId) : load t l = judgedRecord s s.ldt.measB l (load u l) := by
    rw [second.load, judgedRecord_congr inForce]
  refine ⟨?_, ?_, fun g m hm standing => ?_, fun l h => ?_, fun l => ?_, ?_⟩
  · exact (((changesOnly_ldt s _).mono (by decide)).trans first.only).trans second.only
  · exact FrameStands.trans (u := u) first.frame second.frame
  · cases g with
    | a =>
      have hm : s.ldt.measA = some m := hm
      rw [loadT, judgedRecord_other (fun y hy e => absurd e.symm (apart hm hy)), loadU, hm, judgedRecord_own standing]
    | b =>
      have hm : s.ldt.measB = some m := hm
      rw [loadT, keptB m hm, hm, judgedRecord_own standing]
  · rw [loadT, judgedRecord_other (o := s.ldt.measB) (h .b), loadU, judgedRecord_other (o := s.ldt.measA) (h .a)]
  · rw [second.withdrawn]
    refine withdrawn_twice (first.withdrawn l) ?_
    by_cases here : ∃ x, s.ldt.measA = some x ∧ x.load = l
    · obtain ⟨x, hx, rfl⟩ := here
      exact .inr (by rw [loadT, judgedRecord_other fun y hy e => absurd e.symm (apart hx hy)])
    · refine .inl (congrArg (fun d : Load => d.mask.health) ((loadU l).trans ?_))
      exact judgedRecord_other (fun x hx e => absurd ⟨x, hx, e⟩ here) _
  · rw [second.lif, first.lif, judgementReported_congr inForce keptB]
    rfl

/-! ## The overload check (R32, R33, R58) -/

/-- A load's record as an overload check leaves it, with `found` when its leg was found overloaded (R33, R58). -/
def overloadedLoad (found on : Bool) (d : Load) : Load :=
  { d with on := on, verifyDue := d.verifyDue || found, mask := { d.mask with overload := d.mask.overload || found } }

/-- What an overload found on some loads does; `n` says whether it is reported. -/
structure Overloads (found : LoadId → Bool) (n : Bool) (s t : State) : Prop where
  only : ChangesOnly [.ldt, .par, .lif] s t
  frame : FrameStands s t
  record : ∀ l, ∃ on, load t l = overloadedLoad (found l) on (load s l)
  withdrawn : ∀ l, t.par.frame.withdrawn.get l
    = (s.par.frame.withdrawn.get l || (found l && !(load s l).mask.overload))
  lif : t.lif = { s.lif with notices := { s.lif.notices with overload := s.lif.notices.overload || n } }

theorem Overloads.none (h : ∀ l, f l = false) : Overloads f false s s := by
  refine ⟨.refl _ s, rfl, fun l => ⟨(load s l).on, ?_⟩, fun l => ?_, ?_⟩
  · rw [h, overloadedLoad, Bool.or_false, Bool.or_false]
  · rw [h, Bool.false_and, Bool.or_false]
  · rw [Bool.or_false]

theorem Overloads.trans (h : Overloads f a s u) (k : Overloads g b u v) :
    Overloads (fun l => f l || g l) (a || b) s v := by
  refine ⟨h.only.trans k.only, h.frame.trans k.frame, fun l => ?_, fun l => ?_, ?_⟩
  · obtain ⟨_, first⟩ := h.record l
    obtain ⟨on, second⟩ := k.record l
    exact ⟨on, by rw [second, first]; simp only [overloadedLoad, Bool.or_assoc]⟩
  · obtain ⟨_, first⟩ := h.record l
    rw [k.withdrawn, h.withdrawn, first, overloadedLoad]
    dsimp only
    cases s.par.frame.withdrawn.get l <;> cases f l <;> cases (load s l).mask.overload <;> simp
  · rw [k.lif, h.lif]
    simp only [Bool.or_assoc]

theorem Overloads.congr (h : Overloads f a s t) (same : ∀ l, g l = f l) : Overloads g a s t := by
  have e : g = f := funext same
  rw [e]; exact h

theorem overloads_markOverload (firing : s.par.frame.state = .firing) (l : LoadId) :
    Overloads (fun k => k == l) false s (markOverload s l) := by
  have own (k : LoadId) : load (setVerify l s) k = if k = l then { load s l with verifyDue := true } else load s k :=
    load_updLoad _ l k s
  refine ⟨?_, ?_, fun k => ?_, fun k => ?_, ?_⟩
  · exact ((changesOnly_updLoad _ l s).mono (by decide)).then (changesOnly_putReason true .overload l _)
  · exact FrameStands.trans (u := setVerify l s) rfl (frameStands_addReason _ _ _)
  · rw [markOverload, load_addReason]
    simp only [overloadedLoad]
    by_cases e : k = l
    · subst e
      rw [own, if_pos rfl, beq_self_eq_true, Bool.or_true, Bool.or_true]
      cases has : (load s k).mask.overload with
      | true =>
        rw [if_neg fun c => absurd (has.symm.trans c.2) (by decide)]
        exact ⟨(load s k).on, by rw [← has]⟩
      | false => exact ⟨false, if_pos ⟨rfl, has⟩⟩
    · rw [if_neg fun c => e c.1, own, if_neg e, beq_false_of_ne e, Bool.or_false, Bool.or_false]
      exact ⟨(load s k).on, rfl⟩
  · rw [markOverload, addReason_withdrawn_firing (s := setVerify l s) firing]
    refine congrArg (s.par.frame.withdrawn.get k || ·) ?_
    by_cases e : k = l
    · subst e
      rw [own, if_pos rfl]
      rfl
    · rw [beq_false_of_ne e, Bool.false_and, Bool.false_and]
  · rw [Bool.or_false]
    exact (putReason_lif true .overload l (setVerify l s)).1

theorem overloads_foldl (firing : s.par.frame.state = .firing) (ls : List LoadId) :
    Overloads (fun l => decide (l ∈ ls)) false s (ls.foldl markOverload s) := by
  induction ls generalizing s with
  | nil => exact .none fun l => by simp
  | cons k ks ih =>
    have first := overloads_markOverload firing k
    exact (first.trans (ih (first.frame.state.trans firing))).congr fun l => by
      by_cases e : l = k <;> simp [e]

/-- Whether a record finds a leg in use overloaded (R32). -/
def recordOverloaded (r : Option HalfCycle) (s : State) (g : Leg) : Bool :=
  match r.bind fun r => (legAmps r g).map fun i => r.volts * i with
  | .none => false
  | some vi =>
    (g == .a || s.par.frame.inForce.connection == .dual) && !legFaulted s g
      && decide (s.par.frame.inForce.budget g * 110 / 100 < (vi + 5000) / 10000)

theorem legOverloaded_eq (z : Crossing) (s : State) (g : Leg) : legOverloaded z s g = recordOverloaded (closedRecord z s) s g :=
  rfl

theorem overloads_overloadLeg (firing : s.par.frame.state = .firing) (g : Leg) :
    Overloads (fun l => s.par.frame.inForce.leg.get l == g) true s (overloadLeg g s) := by
  have marked := (overloads_foldl firing (loadsOn s.par.frame.inForce g)).congr
    (g := fun l => s.par.frame.inForce.leg.get l == g) fun l => by
      rw [Bool.eq_iff_iff, beq_iff_eq, decide_eq_true_eq, loadsOn, List.mem_filter, beq_iff_eq]
      exact ⟨fun e => ⟨mem_allLoads l, e⟩, And.right⟩
  obtain ⟨only, frame, loads, withdrawn, lif⟩ := marked
  refine ⟨only.then (changesOnly_lif _ _), frame, loads, withdrawn, ?_⟩
  rw [show (overloadLeg g s).lif = { ((loadsOn s.par.frame.inForce g).foldl markOverload s).lif with
    notices := ((loadsOn s.par.frame.inForce g).foldl markOverload s).lif.notices.add .overload } from rfl, lif, Bool.or_false,
    Bool.or_true]
  rfl

theorem recordOverloaded_unmeasured {r : HalfCycle} {g : Leg} (h : legAmps r g = .none) (s : State) :
    recordOverloaded (some r) s g = false := by
  unfold recordOverloaded
  rw [Option.bind_some, h]
  rfl

theorem recordOverloaded_amps {r : HalfCycle} {g : Leg} {i : Nat} (h : legAmps r g = some i) (s : State) :
    recordOverloaded (some r) s g = ((g == .a || s.par.frame.inForce.connection == .dual) && !legFaulted s g
      && overloaded s.par.frame.inForce g r.volts i) := by
  unfold recordOverloaded
  rw [Option.bind_some, h]
  rfl

/-- The check of a leg in use (R32). -/
theorem overloads_checkLeg (firing : s.par.frame.state = .firing) (g : Leg) (r : HalfCycle)
    (used : (g == .a || s.par.frame.inForce.connection == .dual) = true) :
    Overloads (fun l => s.par.frame.inForce.leg.get l == g && recordOverloaded (some r) s g) (recordOverloaded (some r) s g) s
      (checkLeg g r.volts (legAmps r g) (legFaulted s g) s) := by
  unfold checkLeg
  cases amps : legAmps r g with
  | none =>
    rw [recordOverloaded_unmeasured amps]
    exact .none fun l => Bool.and_false _
  | some i =>
    dsimp only
    rw [recordOverloaded_amps amps, used, Bool.true_and]
    cases found : !legFaulted s g && overloaded s.par.frame.inForce g r.volts i with
    | true =>
      rw [if_pos rfl]
      exact (overloads_overloadLeg firing g).congr fun l => Bool.and_true _
    | false =>
      rw [if_neg Bool.false_ne_true]
      exact .none fun l => Bool.and_false _

theorem recordOverloaded_congr (h : FrameStands s t) (msu : t.msu = s.msu) (r : Option HalfCycle) (g : Leg) :
    recordOverloaded r t g = recordOverloaded r s g := by
  have faulted : legFaulted t g = legFaulted s g := by cases g <;> simp only [legFaulted, msu]
  simp only [recordOverloaded, faulted, h.inForce]

theorem checkOverload_some (r : HalfCycle) (s : State) : checkOverload (some r) s =
    match (checkLeg .a r.volts (legAmps r .a) (legFaulted s .a) s).par.frame.inForce.connection with
    | .single => checkLeg .a r.volts (legAmps r .a) (legFaulted s .a) s
    | .dual => checkLeg .b r.volts (legAmps r .b)
        (s.msu.voltage.fault || (checkLeg .a r.volts (legAmps r .a) (legFaulted s .a) s).msu.ampsB.fault)
        (checkLeg .a r.volts (legAmps r .a) (legFaulted s .a) s) := rfl

/-- The check of both legs: each load by the leg that the values in force put it on (R32, R33, R58). -/
theorem overloads_checkOverload (firing : s.par.frame.state = .firing) (r : Option HalfCycle) :
    Overloads (fun l => recordOverloaded r s (s.par.frame.inForce.leg.get l))
      (recordOverloaded r s .a || recordOverloaded r s .b) s (checkOverload r s) := by
  cases r with
  | none => exact .none fun _ => rfl
  | some r =>
    have first := overloads_checkLeg firing .a r rfl
    rw [checkOverload_some]
    generalize checkLeg .a r.volts (legAmps r .a) (legFaulted s .a) s = u at first ⊢
    have msu : u.msu = s.msu := first.only .msu (by decide)
    rw [first.frame.inForce]
    cases connection : s.par.frame.inForce.connection with
    | single =>
      have unused : recordOverloaded (some r) s .b = false := by
        cases amps : legAmps r .b with
        | none => exact recordOverloaded_unmeasured amps s
        | some i => rw [recordOverloaded_amps amps, connection]; rfl
      rw [unused, Bool.or_false]
      refine first.congr fun l => ?_
      cases s.par.frame.inForce.leg.get l
      · rfl
      · exact unused
    | dual =>
      have faulted : (s.msu.voltage.fault || u.msu.ampsB.fault) = legFaulted u .b := by rw [← msu]; rfl
      have second := overloads_checkLeg (first.frame.state.trans firing) .b r (by rw [first.frame.inForce, connection]; rfl)
      dsimp only
      rw [faulted]
      rw [recordOverloaded_congr first.frame msu, first.frame.inForce] at second
      refine (first.trans second).congr fun l => ?_
      cases s.par.frame.inForce.leg.get l
      · exact (Bool.or_false _).symm
      · rfl

/-! ## The slot that ends -/

/-- A measurement with the record that a zero-cross closes (R26, R27). -/
def withRecord (r : Option HalfCycle) (s : State) (g : Leg) (m : Measurement) : Measurement :=
  match r with
  | .none => m
  | some r => takeRecord s.par.frame.half r.volts (legAmps r g) (legFaulted s g) m

theorem finalMeasurement_eq (z : Crossing) (s : State) (g : Leg) :
    finalMeasurement z s g = (legMeasurement s g).map (withRecord (closedRecord z s) s g) := by
  unfold finalMeasurement withRecord
  cases legMeasurement s g <;> cases closedRecord z s <;> rfl

/-- The zero-cross's record kept: the open measurements have taken it (R10, R26). -/
structure RecordKept (r : Option HalfCycle) (s t : State) : Prop where
  only : ChangesOnly [.msu, .ldt] s t
  load : ∀ l, Machine.load t l = Machine.load s l
  faulted : ∀ g, legFaulted t g = legFaulted s g
  meas : ∀ g, legMeasurement t g = (legMeasurement s g).map (withRecord r s g)

theorem recordKept (r : Option HalfCycle) (s : State) : RecordKept r s (keepRecord r s) := by
  cases r with
  | none => exact ⟨.refl _ s, fun _ => rfl, fun _ => rfl, fun g => (Option.map_id' (x := legMeasurement s g)).symm⟩
  | some r =>
    refine ⟨?_, fun _ => rfl, fun g => by cases g <;> rfl, fun g => by cases g <;> rfl⟩
    exact ((changesOnly_msu s _).mono (by decide)).then (changesOnly_ldt _ _)

theorem healthBand_reported (n : Nat) : reported (healthBand n) = (healthBand n != .good) := by
  unfold healthBand
  split_ifs <;> rfl

theorem SlotJudged.cases (h : SlotJudged s t) (l : LoadId) : load t l = load s l
    ∨ ∃ m, load t l = markedLoad (judgedLoad s.par.frame.inForce.slotHc m (load s l)) := by
  by_cases here : ∃ g m, legMeasurement s g = some m ∧ m.load = l ∧ stands s m = true
  · obtain ⟨g, m, hm, rfl, standing⟩ := here
    exact .inr ⟨m, h.judged g m hm standing⟩
  · exact .inl (h.rest l fun g m hm e => Bool.eq_false_iff.2 fun standing => here ⟨g, m, hm, e, standing⟩)

/-- What a judgement leaves of a load's record (R29). -/
theorem markedLoad_kept (hc : Nat) (m : Measurement) (d : Load) : (markedLoad (judgedLoad hc m d)).demand = d.demand
    ∧ (markedLoad (judgedLoad hc m d)).served = d.served ∧ (markedLoad (judgedLoad hc m d)).shortfall = d.shortfall
    ∧ (markedLoad (judgedLoad hc m d)).mask.overload = d.mask.overload := by
  unfold markedLoad
  split <;> exact ⟨rfl, rfl, rfl, rfl⟩

theorem SlotJudged.kept (h : SlotJudged s t) (l : LoadId) : (load t l).demand = (load s l).demand
    ∧ (load t l).served = (load s l).served ∧ (load t l).shortfall = (load s l).shortfall
    ∧ (load t l).mask.overload = (load s l).mask.overload := by
  obtain e | ⟨m, e⟩ := h.cases l <;> rw [e]
  · exact ⟨rfl, rfl, rfl, rfl⟩
  · exact markedLoad_kept ..

/-- What the end of a slot does before the next opens, by the measurements as the zero-cross leaves them. -/
structure SlotEnded (z : Crossing) (s t : State) : Prop where
  only : ChangesOnly [.msu, .ldt, .par, .lif] s t
  frame : FrameStands s t
  judged : ∀ g m, finalMeasurement z s g = some m → stands s m = true →
    ∃ on, load t m.load = overloadedLoad (legOverloaded z s (s.par.frame.inForce.leg.get m.load)) on
      (markedLoad (judgedLoad s.par.frame.inForce.slotHc m (load s m.load)))
  rest : ∀ l, (∀ g m, finalMeasurement z s g = some m → m.load = l → stands s m = false) →
    ∃ on, load t l = overloadedLoad (legOverloaded z s (s.par.frame.inForce.leg.get l)) on (load s l)
  kept : ∀ l, (load t l).demand = (load s l).demand ∧ (load t l).served = (load s l).served
    ∧ (load t l).shortfall = (load s l).shortfall
    ∧ (load t l).mask.overload = ((load s l).mask.overload || legOverloaded z s (s.par.frame.inForce.leg.get l))
  withdrawn : ∀ l, t.par.frame.withdrawn.get l = (s.par.frame.withdrawn.get l
    || ((load t l).mask.overload && !(load s l).mask.overload) || ((load t l).mask.health && !(load s l).mask.health))
  notices : t.lif.notices.overload = (s.lif.notices.overload || legOverloaded z s .a || legOverloaded z s .b)
    ∧ t.lif.notices.loadFault = (s.lif.notices.loadFault || judgementReported s (finalMeasurement z s .a)
      || judgementReported s (finalMeasurement z s .b))

theorem slotEnded (z : Crossing) (firing : s.par.frame.state = .firing) (law : FiringLaw s) (solo : SoloLaw s) :
    SlotEnded z s (checkOverload (closedRecord z s) (closeMeasurements (keepRecord (closedRecord z s) s))) := by
  have kept := recordKept (closedRecord z s) s
  have laws := (keeps_keepRecord (closedRecord z s) s).table
  generalize keepRecord (closedRecord z s) s = k at kept laws ⊢
  have par : k.par = s.par := kept.only .par (by decide)
  have final (g : Leg) : legMeasurement k g = finalMeasurement z s g := (kept.meas g).trans (finalMeasurement_eq z s g).symm
  have closed := slotJudged (s := k) (by rw [par]; exact firing) (laws.firing law) (laws.solo solo)
  generalize closeMeasurements k = c at closed ⊢
  have frame : FrameStands s c := by
    have f := closed.frame
    rw [FrameStands, par] at f
    exact f
  have inForce := frame.inForce
  have msu : c.msu = k.msu := closed.only .msu (by decide)
  have checked := overloads_checkOverload (s := c) (frame.state.trans firing) (closedRecord z s)
  have found (g : Leg) : recordOverloaded (closedRecord z s) c g = legOverloaded z s g := by
    rw [recordOverloaded_congr closed.frame msu, legOverloaded_eq]
    simp only [recordOverloaded, kept.faulted, par]
  simp only [found, inForce] at checked
  generalize checkOverload (closedRecord z s) c = t at checked ⊢
  have stand (m : Measurement) : stands k m = stands s m := stands_congr (by rw [par]) m
  have hc : k.par.frame.inForce.slotHc = s.par.frame.inForce.slotHc := by rw [par]
  have overload (l : LoadId) : (load t l).mask.overload
      = ((load s l).mask.overload || legOverloaded z s (s.par.frame.inForce.leg.get l)) := by
    obtain ⟨on, e⟩ := checked.record l
    rw [e, ← kept.load l, ← (closed.kept l).2.2.2]
    rfl
  refine ⟨?_, FrameStands.trans (u := c) frame checked.frame, fun g m hm standing => ?_, fun l h => ?_, fun l => ?_, fun l => ?_,
    ?_, ?_⟩
  · exact ((kept.only.mono (cs := [.msu, .ldt, .par, .lif]) (by decide)).then closed.only).then checked.only
  · obtain ⟨on, e⟩ := checked.record m.load
    rw [closed.judged g m ((final g).trans hm) ((stand m).trans standing), hc, kept.load] at e
    exact ⟨on, e⟩
  · obtain ⟨on, e⟩ := checked.record l
    rw [closed.rest l (fun g m hm own => (stand m).trans (h g m ((final g).symm.trans hm) own)), kept.load] at e
    exact ⟨on, e⟩
  · obtain ⟨on, e⟩ := checked.record l
    obtain ⟨demand, served, shortfall, -⟩ := closed.kept l
    refine ⟨?_, ?_, ?_, overload l⟩
    · rw [e, ← kept.load l]; exact demand
    · rw [e, ← kept.load l]; exact served
    · rw [e, ← kept.load l]; exact shortfall
  · obtain ⟨on, e⟩ := checked.record l
    have health : (load t l).mask.health = (load c l).mask.health := by rw [e]; rfl
    rw [overload, health, checked.withdrawn, closed.withdrawn, (closed.kept l).2.2.2, kept.load, par]
    cases s.par.frame.withdrawn.get l <;> cases (load s l).mask.overload <;>
      cases legOverloaded z s (s.par.frame.inForce.leg.get l) <;> simp
  · have lif : k.lif = s.lif := kept.only .lif (by decide)
    rw [checked.lif, closed.lif, lif]
    exact (Bool.or_assoc _ _ _).symm
  · have lif : k.lif = s.lif := kept.only .lif (by decide)
    have told (o : Option Measurement) : judgementReported k o = judgementReported s o :=
      judgementReported_congr (by rw [par]) fun m _ => kept.load _
    rw [checked.lif, closed.lif, lif, final, final, told, told]

/-! ## The next slot opens (R25, R43, R44) -/

theorem zeroCross_slotEnd {z : Crossing} (ends : endsSlot z s = true) (early : s.par.frame.slot < 15)
    (stands : FrameStands s (checkOverload (closedRecord z s) (closeMeasurements (keepRecord (closedRecord z s) s)))) :
    zeroCross z s = openHalfCycle (openSlot (s.par.frame.slot + 1)
      (checkOverload (closedRecord z s) (closeMeasurements (keepRecord (closedRecord z s) s)))) := by
  simp only [endsSlot, Bool.and_eq_true, beq_iff_eq] at ends
  obtain ⟨⟨seen, firing⟩, last⟩ := ends
  have par : (keepRecord (closedRecord z s) s).par = s.par := (recordKept _ s).only .par (by decide)
  have firing' : (keepRecord (closedRecord z s) s).par.frame.state = .firing := by rw [par]; exact firing
  have last' : atSlotEnd (keepRecord (closedRecord z s) s) = true := by rw [atSlotEnd, par]; exact last
  have slot : (checkOverload (closedRecord z s) (closeMeasurements (keepRecord (closedRecord z s) s))).par.frame.slot
      = s.par.frame.slot := by rw [stands]
  have closed : endSlot (closedRecord z s) (keepRecord (closedRecord z s) s) = openSlot (s.par.frame.slot + 1)
      (checkOverload (closedRecord z s) (closeMeasurements (keepRecord (closedRecord z s) s))) := by
    rw [← slot]
    exact if_pos (by rw [slot]; exact early)
  rw [zeroCross, if_pos seen]
  dsimp only
  rw [arbiterCross_firing _ firing', if_pos last', closed]

theorem changesOnly_openSlot (n : Nat) (s : State) : ChangesOnly [.par, .ldt] s (openSlot n s) := by
  have opened : ChangesOnly [.par, .ldt] s (slotOpened n s) :=
    .then (u := { s with par := (slotOpened n s).par }) ((changesOnly_par s _).mono (by decide)) (changesOnly_ldt _ _)
  exact opened.then (changesOnly_of_shell (shell_openSlot n s))

theorem judgementReported_band {m : Measurement} (standing : stands s m = true) : judgementReported s (some m)
    = (healthBand (measuredPower s.par.frame.inForce.slotHc m * 100 / (load s m.load).ratedW) != .good) := by
  rw [judgementReported, standing, Bool.true_and]
  exact healthBand_reported _

theorem judgementReported_skipped {o : Option Measurement} (h : ∀ m, o = some m → stands s m = true →
    healthBand (measuredPower s.par.frame.inForce.slotHc m * 100 / (load s m.load).ratedW) = .good) :
    judgementReported s o = false := by
  cases o with
  | none => rfl
  | some m =>
    cases standing : stands s m with
    | false => rw [judgementReported, standing, Bool.false_and]
    | true => rw [judgementReported_band standing, h m rfl standing]; rfl

/-- A judged load's record after the check (R28, R29, R33). -/
theorem overloadedLoad_marked (hc : Nat) (m : Measurement) (d : Load) (found on : Bool) (clear : d.mask.health = false) :
    (overloadedLoad found on (markedLoad (judgedLoad hc m d))).measuredW = some (measuredPower hc m)
    ∧ (overloadedLoad found on (markedLoad (judgedLoad hc m d))).health = healthBand (measuredPower hc m * 100 / d.ratedW)
    ∧ (overloadedLoad found on (markedLoad (judgedLoad hc m d))).mask.health
      = outOfUse (healthBand (measuredPower hc m * 100 / d.ratedW))
    ∧ (overloadedLoad found on (markedLoad (judgedLoad hc m d))).verifyDue = found := by
  unfold markedLoad
  split
  · rename_i out
    exact ⟨rfl, rfl, out.symm, rfl⟩
  · rename_i out
    exact ⟨rfl, rfl, clear.trans (Bool.eq_false_iff.2 out).symm, rfl⟩

/-- A measurement that stands as the slot closes is of a load without HEALTH (R27). -/
theorem final_clear {z : Crossing} {g : Leg} {m : Measurement} (solo : SoloLaw s) (hm : finalMeasurement z s g = some m)
    (standing : stands s m = true) : (load s m.load).mask.health = false := by
  rw [finalMeasurement_eq] at hm
  obtain ⟨m₀, held, rfl⟩ := Option.map_eq_some_iff.1 hm
  simp only [stands, Bool.and_eq_true, Bool.not_eq_true'] at standing
  obtain ⟨valid, -⟩ := standing
  unfold withRecord at valid ⊢
  cases closed : closedRecord z s with
  | none =>
    rw [closed] at valid
    exact (Mask.isEmpty_iff _).1 (solo.standing g m₀ held valid).1 .health
  | some r =>
    rw [closed] at valid
    simp only [takeRecord, Bool.or_eq_false_iff] at valid
    exact (Mask.isEmpty_iff _).1 (solo.standing g m₀ held valid.1.1).1 .health

theorem reported_of_leg {g : Leg} {x y : Bool} {r : Leg → Bool} (h : y = (x || r .a || r .b)) (told : r g = true) :
    y = true := by
  subst h
  cases g <;> simp [told]

/-- The judged load after the slot's end (R28, R29, R33). -/
theorem SlotEnded.judgedLoad {z : Crossing} {g : Leg} {m : Measurement} (h : SlotEnded z s t) (solo : SoloLaw s)
    (hm : finalMeasurement z s g = some m) (standing : stands s m = true) :
    (load t m.load).measuredW = some (measuredPower s.par.frame.inForce.slotHc m)
    ∧ (load t m.load).health
      = healthBand (measuredPower s.par.frame.inForce.slotHc m * 100 / (load s m.load).ratedW)
    ∧ (load t m.load).mask.health = outOfUse (load t m.load).health
    ∧ (load t m.load).verifyDue = legOverloaded z s (s.par.frame.inForce.leg.get m.load) := by
  obtain ⟨on, e⟩ := h.judged g m hm standing
  obtain ⟨power, band, mask, due⟩ := overloadedLoad_marked s.par.frame.inForce.slotHc m (load s m.load)
    (legOverloaded z s (s.par.frame.inForce.leg.get m.load)) on (final_clear solo hm standing)
  rw [← e] at power band mask due
  exact ⟨power, band, by rw [mask, band], due⟩

theorem SlotEnded.faultReported {z : Crossing} {g : Leg} {m : Measurement} (h : SlotEnded z s t) (solo : SoloLaw s)
    (hm : finalMeasurement z s g = some m) (standing : stands s m = true) (bad : (load t m.load).health ≠ .good) :
    t.lif.notices.loadFault = true := by
  obtain ⟨-, band, -⟩ := h.judgedLoad solo hm standing
  refine reported_of_leg (r := fun g => judgementReported s (finalMeasurement z s g)) (g := g) h.notices.2 ?_
  rw [hm, judgementReported_band standing, ← band]
  exact bne_iff_ne.2 bad

theorem SlotEnded.faultUnreported {z : Crossing} (h : SlotEnded z s t) (solo : SoloLaw s)
    (good : ∀ g m, finalMeasurement z s g = some m → stands s m = true → (load t m.load).health = .good) :
    t.lif.notices.loadFault = s.lif.notices.loadFault := by
  have quiet (g : Leg) : judgementReported s (finalMeasurement z s g) = false :=
    judgementReported_skipped fun m hm standing => by
      rw [← (h.judgedLoad solo hm standing).2.1]
      exact good g m hm standing
  rw [h.notices.2, quiet, quiet, Bool.or_false, Bool.or_false]

/-- The opening of slot `n`, with its first half-cycle (R10, R25, R43, R44). -/
structure SlotOpens (n : Nat) (s t : State) : Prop where
  only : ChangesOnly [.msu, .par, .ldt] s t
  load : ∀ l, Machine.load t l = loadAtOpen n s l (Machine.load s l)
  par : t.par = { s.par with frame := { s.par.frame with slot := n, half := 1 } }
  meas : ∀ g, legMeasurement t g = (soloOn (slotOf s.par.frame.grid n) g).map (openMeasurement s)

theorem slotOpens (n : Nat) (s : State) : SlotOpens n s (openHalfCycle (openSlot n s)) := by
  have load := load_openSlot n s
  have par := openSlot_par n s
  have meas := legMeasurement_openSlot n s
  have only := changesOnly_openSlot n s
  generalize openSlot n s = u at load par meas only ⊢
  exact ⟨(only.mono (cs := [.msu, .par, .ldt]) (by decide)).then (changesOnly_msu u _), load, par, meas⟩

/-- Settles O46: the slot's end is `slotEnded`, and the next slot opens on the state it leaves. -/
theorem slotsFollowOneAnother : Obligations.SlotsFollowOneAnother := by
  unfold Obligations.SlotsFollowOneAnother
  intro z s law solo ends early
  have firing : s.par.frame.state = .firing := by
    simp only [endsSlot, Bool.and_eq_true, beq_iff_eq] at ends
    exact ends.1.2
  have ended := slotEnded z firing law solo
  have next := zeroCross_slotEnd ends early ended.frame
  have row : exec (.slotEnd z) s = .next (zeroCross z s) := congrArg Host.Outcome.next (if_pos ends)
  refine ⟨zeroCross z s, row, rfl, ?_⟩
  have opens := slotOpens (s.par.frame.slot + 1)
    (checkOverload (closedRecord z s) (closeMeasurements (keepRecord (closedRecord z s) s)))
  rw [← next] at opens
  generalize zeroCross z s = t at opens ⊢
  generalize checkOverload (closedRecord z s) (closeMeasurements (keepRecord (closedRecord z s) s)) = o at ended opens
  have grid : o.par.frame.grid = s.par.frame.grid := by rw [ended.frame]
  have withdrawn : t.par.frame.withdrawn = o.par.frame.withdrawn := by rw [opens.par]
  have lif : t.lif = o.lif := opens.only .lif (by decide)
  refine ⟨(ended.only.mono (by decide)).then opens.only, ?_, fun l => ?_, fun l => ?_,
    fun g m w hm standing hw => ?_, fun l h => ?_, fun good => ?_, fun l => ?_, ?_, fun g => ?_⟩
  · rw [withdrawn, opens.par, ended.frame]
  · rw [opens.load, withdrawn, ← grid, Bool.and_assoc]
    rfl
  · rw [opens.load]
    exact ⟨(ended.kept l).1, (ended.kept l).2.1, (ended.kept l).2.2.1⟩
  · subst hw
    obtain ⟨power, band, mask, due⟩ := ended.judgedLoad solo hm standing
    rw [opens.load, lif]
    exact ⟨power, band, mask, ended.faultReported solo hm standing, due⟩
  · obtain ⟨on, e⟩ := ended.rest l h
    rw [opens.load, e]
    exact ⟨rfl, rfl, rfl, rfl⟩
  · rw [lif]
    refine ended.faultUnreported solo fun g m hm standing => ?_
    have all := good g m hm standing
    rw [opens.load] at all
    exact all
  · rw [opens.load, withdrawn]
    exact ⟨(ended.kept l).2.2.2, ended.withdrawn l⟩
  · rw [lif]
    exact ended.notices.1
  · rw [opens.meas, grid]
    refine congrArg (Option.map · _) (funext fun l => ?_)
    rw [withdrawn, opens.load]
    rfl

end Sys2Proof.Machine
end
